-- ==== Sys2Proof/Word.lean ====
section
/-! DEFINITION. The words of PWMCFG (spec/00_scope.md R8, R9): bit 0 is the least significant bit of every one. -/

namespace Sys2Proof

/-- A byte of a serialised command or response word (R37). -/
abbrev Byte := BitVec 8

/-- A 16-bit register: PSC, ARR, CCR, CNT, PSC_CNT (R8). -/
abbrev Half := BitVec 16

/-- A 32-bit operand field: `period_ticks`, or a binary32 duty pattern (R8, R53, R54). -/
abbrev Word32 := BitVec 32

/-- A whole command word, 72 bits (R51). -/
abbrev CmdWord := BitVec 72

/-- A whole response word, 18 bits (R57). -/
abbrev RspWord := BitVec 18

end Sys2Proof
end

