-- ==== Sys2Proof/Syntax.lean ====
section
/-! DEFINITION. The instructions of PWMCFG: its three host commands (spec/30_encoding.md R52), one constructor per row
of spec/opcode_table.json. A field that a command ignores (R55) is no part of the command. -/

namespace Sys2Proof

/-- A command after decoding. -/
inductive Instr where
  /-- CONFIGURE, op 0x01: `period_ticks` and the initial duty pattern (R65). -/
  | configure (period duty : Word32)
  /-- SET_DUTY, op 0x02: the duty pattern (R77). -/
  | setDuty (duty : Word32)
  /-- START, op 0x03: no operands (R82). -/
  | start
  deriving DecidableEq, Repr

end Sys2Proof
end

