-- ==== Sys2Proof/WellFormed.lean ====
section
/-! DEFINITION. Which commands, and which serialised commands, are well formed. (The check on the build-time parameters
is `Config.wellFormed`; the check on an assembler line is `Machine.Line.wellFormed`.) -/

namespace Sys2Proof

/-- Every command is well formed: each of the 2^32 periods is a legal encoding (R53; a period outside 1..65536 is refused
when the command runs, R66), each of the 2^32 duty patterns is a legal operand (R54), and the operand types hold exactly
those values. So there is nothing to check. -/
def Instr.wellFormed : Instr → Bool
  | .configure _ _ => true
  | .setDuty _ => true
  | .start => true

/-- A serialised command word is 9 bytes (R37); it is presented whole and there is no partial command (R38). -/
def wholeCommand (bs : List Byte) : Bool := bs.length == 9

end Sys2Proof
end

