-- ==== Sys2Proof/Decode.lean ====
section
/-! DEFINITION. The command decoder and encoder (spec/30_encoding.md R51 to R56, R61) and the byte order of a serialised
command word (spec/20_memory.md R37). -/

namespace Sys2Proof

/-- Why a word or a byte string is no command. -/
inductive DecodeError where
  /-- `op` is 0x00 or in 0x04..0xFF (R56). -/
  | reservedOpcode (op : Byte)
  /-- A byte string that is not the 9 bytes of a whole command word (R37, R38). -/
  | notNineBytes (n : Nat)
  deriving DecidableEq, Repr

/-- `op = cmd[71:64]` (R51). -/
def opField (w : CmdWord) : Byte := w.extractLsb' 64 8

/-- `period_ticks = cmd[63:32]` (R53). -/
def periodField (w : CmdWord) : Word32 := w.extractLsb' 32 32

/-- `duty = cmd[31:0]` (R54). -/
def dutyField (w : CmdWord) : Word32 := w.extractLsb' 0 32

/-- The decoder: it reads `op` alone (R52), ignores the fields the command does not use (R55), and names the opcode of
every other word (R56). It is total (R61). -/
def decode (w : CmdWord) : Except DecodeError Instr :=
  if opField w = 0x01#8 then .ok (.configure (periodField w) (dutyField w))
  else if opField w = 0x02#8 then .ok (.setDuty (dutyField w))
  else if opField w = 0x03#8 then .ok .start
  else .error (.reservedOpcode (opField w))

/-- The opcode of a command (R52). -/
def Instr.opcode : Instr → Byte
  | .configure _ _ => 0x01#8
  | .setDuty _ => 0x02#8
  | .start => 0x03#8

/-- `{op, period_ticks, duty}` (R9, R51). -/
def packCommand (op : Byte) (period duty : Word32) : CmdWord := op ++ period ++ duty

/-- The encoder; it writes ignored fields as zero (R55). -/
def encode : Instr → CmdWord
  | .configure p d => packCommand (Instr.opcode (.configure p d)) p d
  | .setDuty d => packCommand (Instr.opcode (.setDuty d)) 0#32 d
  | .start => packCommand (Instr.opcode .start) 0#32 0#32

/-- The bits of a command word that its command reads: `op`, and the operand fields of R52's table. -/
def Instr.usedBits : Instr → CmdWord
  | .configure _ _ => 0xFFFFFFFFFFFFFFFFFF#72
  | .setDuty _ => 0xFF00000000FFFFFFFF#72
  | .start => 0xFF0000000000000000#72

/-- A command word serialised: 9 bytes, byte `k` is `cmd[8k+7 : 8k]` (R37). -/
def bytesOfWord (w : CmdWord) : List Byte := (List.range 9).map fun k => w.extractLsb' (8 * k) 8

/-- The word of a serialised command, least significant byte first (R37). -/
def wordOfBytes (bs : List Byte) : CmdWord :=
  bs.foldr (fun b acc => (acc <<< (8 : Nat)) ||| b.setWidth 72) 0#72

/-- The decoder over serialised commands, total on any bytes. -/
def decodeBytes (bs : List Byte) : Except DecodeError Instr :=
  if wholeCommand bs then decode (wordOfBytes bs) else .error (.notNineBytes bs.length)

/-- The command word whose low `nbits` bits are those of `w` and whose other bits are 0. -/
def tableWord (nbits w : Nat) : CmdWord := BitVec.ofNat 72 (w % 2 ^ nbits)

/-- The command read from an instruction whose bits, numbered as spec/opcode_table.json numbers them, are `w`: the word
is laid out as bytes (R37) and given to the byte decoder. No instruction is longer than 72 bits (R51). -/
def decodeTableWord (nbits w : Nat) : Option Instr :=
  if nbits ≤ 72 then (decodeBytes (bytesOfWord (tableWord nbits w))).toOption else none

end Sys2Proof
end

