-- ==== Sys2Proof/Config.lean ====
section
/-! DEFINITION. The build-time parameters of PWMCFG (spec/00_scope.md R7, 92 D16). They are open: the two opaque
constants have no body, so no proof can see their values. -/

namespace Sys2Proof.Config

/-- `PSC_FIXED`, the fixed divider that CONFIGURE writes to PSC, an integer in 0..65535 (R7). OPEN. -/
opaque pscFixed : Half

/-- One less than `F_TICK_HZ`. OPEN. -/
opaque tickHzPred : Nat

/-- `F_TICK_HZ`, the rate of one counter tick, a positive integer (R7). -/
def fTickHz : Nat := tickHzPred + 1

/-- `F_CLK_HZ`, the timer's input clock. It is `F_TICK_HZ * (PSC_FIXED + 1)`: every parameter set that meets R7's
constraint has this form, and no other set is a PWMCFG. -/
def fClkHz : Nat := fTickHz * (pscFixed.toNat + 1)

/-- The constraint of R7 on a parameter set: both frequencies positive, `F_TICK_HZ` divides `F_CLK_HZ` exactly, and the
quotient is in 1..65536. -/
def wellFormed (fClk fTick : Nat) : Bool :=
  decide (0 < fClk) && decide (0 < fTick) && decide (fClk % fTick = 0) &&
    decide (1 ≤ fClk / fTick) && decide (fClk / fTick ≤ 65536)

/-- Building a PWMCFG from its two frequencies: the value of `PSC_FIXED`, or nothing when the set breaks the constraint
("a model refuses to build it", R7). -/
def buildPsc (fClk fTick : Nat) : Option Half :=
  if wellFormed fClk fTick then some (BitVec.ofNat 16 (fClk / fTick - 1)) else none

/-- The PWM frequency, in Hz, of a period of `p` ticks: `F_CLK_HZ / ((PSC_FIXED + 1) * p)` (spec/60_exceptions.md R96). -/
def pwmFrequency (p : Nat) : Rat := (fClkHz : Rat) / (((pscFixed.toNat + 1) * p : Nat) : Rat)

end Sys2Proof.Config
end

