-- ==== Sys2Proof/Machine/Operands.lean ====
section
/-! DEFINITION. The duty operand and the Duty-Cycle Mapper MAP: the binary32 value of a pattern (spec/00_scope.md R11),
`clamp` and `round_half_up` (R12), MAP over exact rationals (spec/41_set_duty.md R72), and MAP over integers (R73), which
is the form the commands use. -/

namespace Sys2Proof.Machine

/-- A rational, or one of the two infinities: the values `clamp` orders (R12). -/
inductive ExtRat where
  | negInf
  | fin (q : Rat)
  | posInf
  deriving DecidableEq, Repr

/-- `s = b[31]`, the sign bit (R11). -/
def f32Sign (b : Word32) : Bool := b.getLsbD 31

/-- `e = b[30:23]`, the exponent field (R11). -/
def f32Exp (b : Word32) : Nat := (b.extractLsb' 23 8).toNat

/-- `m = b[22:0]`, the fraction field (R11). -/
def f32Frac (b : Word32) : Nat := (b.extractLsb' 0 23).toNat

/-- `(-1)^s * x`. -/
def applySign (s : Bool) (x : Rat) : Rat := if s then -x else x

/-- `f32val(b)` of R11, exact; `none` is NaN. -/
def f32val (b : Word32) : Option ExtRat :=
  if f32Exp b = 255 then
    if f32Frac b ≠ 0 then none
    else some (if f32Sign b then .negInf else .posInf)
  else if f32Exp b = 0 then
    some (.fin (applySign (f32Sign b) ((f32Frac b : Rat) / 2 ^ 149)))
  else
    some (.fin (applySign (f32Sign b) ((2 ^ 23 + f32Frac b : Rat) * 2 ^ f32Exp b / 2 ^ 150)))

/-- The order of R12 on `ExtRat`, as a comparison `x ≤ y`: -Inf below and +Inf above every rational. -/
def ExtRat.le : ExtRat → ExtRat → Prop
  | .negInf, _ => True
  | _, .posInf => True
  | .fin x, .fin y => x ≤ y
  | .fin _, .negInf => False
  | .posInf, _ => False

/-- `x / 100` of R72. -/
def ExtRat.percent : ExtRat → ExtRat
  | .negInf => .negInf
  | .fin q => .fin (q / 100)
  | .posInf => .posInf

/-- `clamp(x, lo, hi)` of R12. -/
def clamp (x : ExtRat) (lo hi : Rat) : Rat :=
  match x with
  | .negInf => lo
  | .posInf => hi
  | .fin q => if q < lo then lo else if hi < q then hi else q

/-- `round_half_up(q)` of R12: `floor(q + 1/2)`. -/
def roundHalfUp (q : Rat) : Int := (q + 1 / 2).floor

/-- `normalized` of R72: NaN gives 1/10, anything else is clamped to the closed interval [1/10, 1/5]. -/
def normalizedDuty (d : Word32) : Rat :=
  match f32val d with
  | none => 1 / 10
  | some x => clamp x.percent (1 / 10) (1 / 5)

/-- MAP as R72 defines it, over exact rationals with one rounding at the end. -/
def mapExact (d : Word32) (a : Half) : Int := roundHalfUp (normalizedDuty d * (a.toNat : Rat))

/-- `M(d)` of R73: the clamped percentage times 2^20. -/
def clampedPercent (d : Word32) : Nat :=
  if d.getLsbD 31 then 10485760
  else if 0x7F800000 < d.toNat then 10485760
  else if d.toNat < 0x41200000 then 10485760
  else if 0x41A00000 < d.toNat then 20971520
  else if d.toNat < 0x41800000 then 2 ^ 23 + f32Frac d
  else 2 * (2 ^ 23 + f32Frac d)

/-- MAP in the integer form of R73, `(M(d) * a + 52428800) // 104857600`. The result is at most 13107 (R75), so the
16-bit word holds it. -/
def mapDuty (d : Word32) (a : Half) : Half :=
  BitVec.ofNat 16 ((clampedPercent d * a.toNat + 52428800) / 104857600)

/-- `LO(a)` of R75. -/
def lowBand (a : Half) : Nat := (a.toNat + 5) / 10

/-- `HI(a)` of R75. -/
def highBand (a : Half) : Nat := (2 * a.toNat + 5) / 10

/-- The auto-reload value of a legal period, `p - 1`; checks (b) and (c) of R66 have put `p` in 1..65536. -/
def autoReloadOf (p : Word32) : Half := BitVec.ofNat 16 (p.toNat - 1)

end Sys2Proof.Machine
end

