-- ==== Sys2Proof/Machine/State.lean ====
section
/-! DEFINITION. The state of PWMCFG. `Regs` is the whole architectural state, the fourteen registers of
spec/10_state.md R13. The step relation of R32, with the schedule's step and the launch premises for its arguments and the
response for a result, is `stepRegs` (Relation.lean), over `Regs` alone. `State` is a run's configuration: the registers
and, beside them, what R32 says is not state (assumptions 1, 2, 3 and 15), since the host's interface takes a step of one
value. -/

namespace Sys2Proof.Machine

/-- OCM, the output-compare mode (R19): 0 is `frozen`, 1 is `pwm1`. -/
inductive OcMode where
  | frozen
  | pwm1
  deriving DecidableEq, Repr

/-- CCP, the channel polarity (R21): 0 is `activeHigh`, 1 is `activeLow`. -/
inductive Polarity where
  | activeHigh
  | activeLow
  deriving DecidableEq, Repr

/-- The register block, FSW's TimerPeripheral with the counter and the prescaler count (R13). -/
structure Regs where
  /-- PSC, the prescaler; the clock is divided by `PSC + 1` (R16). -/
  psc : Half
  /-- ARR_PRE, the preload copy of the auto-reload register (R17). -/
  arrPre : Half
  /-- ARR_ACT, the active copy of the auto-reload register (R17). -/
  arrAct : Half
  /-- CCR_PRE, the preload copy of the compare register (R18). -/
  ccrPre : Half
  /-- CCR_ACT, the active copy of the compare register (R18). -/
  ccrAct : Half
  /-- OCM, the output-compare mode (R19). -/
  ocm : OcMode
  /-- CC_OUT, the channel is selected as an output (R20). -/
  ccOut : Bool
  /-- CCP, the channel polarity (R21). -/
  ccp : Polarity
  /-- OCPE, output-compare preload enable (R22). -/
  ocpe : Bool
  /-- ARPE, auto-reload preload enable (R23). -/
  arpe : Bool
  /-- CCE, channel output enable, and the "configured" indication (R24, R29). -/
  cce : Bool
  /-- CEN, the counter-run bit (R25). -/
  cen : Bool
  /-- CNT, the timer counter (R26). -/
  cnt : Half
  /-- PSC_CNT, the prescaler's count of input clocks (R27). -/
  pscCnt : Half
  deriving DecidableEq, Repr

/-- The three status codes of a response (R58); the code 3 is never produced. -/
inductive Status where
  | ok
  | configError
  | illegalCmd
  deriving DecidableEq, Repr

/-- A response: its status and its value field (R57). -/
structure Response where
  status : Status
  value : Half
  deriving DecidableEq, Repr

/-- One step of one of the two agents (R44): a command word the host issues (R50), one rising clock edge of the timer
agent (R91), or the host's RESET (R100). `reset` carries the command words presented while `rst` is 1. -/
inductive Event where
  | issue (w : CmdWord)
  | clk
  | reset (presented : List CmdWord)
  deriving DecidableEq, Repr

/-- The launch premises about the environment (R101): P1, the timer's clock is enabled; P2, the pin is routed. -/
structure Premises where
  clockEnabled : Bool
  pinRouted : Bool
  deriving DecidableEq, Repr

/-- What the command port answers to one command: the registers after it, and its response. -/
abbrev Answer := Regs × Response

/-- The registers, and beside them the arguments and the result of the step relation (R32), the model's own fields. -/
structure State where
  /-- The architectural state (R13). -/
  regs : Regs
  /-- The response port after the latest step: the response word if that step issued a command (R57), else nothing. -/
  rsp : Option Response
  /-- The steps the two agents take next, in order (R42, R44). When it is empty the timer agent steps (R112). -/
  schedule : List Event
  /-- The launch premises (R101); no step changes them. -/
  premises : Premises
  deriving DecidableEq, Repr

/-- Why the machine would stop with a fault: never. Every command responds in every state and the timer agent always has
a step (R112); an error is a response, not a stop (R85, R86). So there is no constructor. -/
inductive Fault where
  deriving DecidableEq, Repr

/-- Why a step has no meaning. -/
inductive Refusal where
  /-- Raised by an arm of `exec` for an instruction without a meaning. Safe. No arm raises it. -/
  | notModelled (mnemonic : String)
  /-- Raised by `step` when launch premise P1 is false: the timer's clock is not enabled (R101, 93 U3). Safe. -/
  | clockNotEnabled
  /-- Raised by `step` when launch premise P2 is false: the pin is not routed to the channel (R101, 93 U3). Safe. -/
  | pinNotRouted
  deriving DecidableEq, Repr

/-- What a step, or a command's meaning, answers. -/
abbrev StepResult := Host.Outcome State Fault Refusal

/-- The reset value of every register (R33). -/
def Regs.reset : Regs where
  psc := 0
  arrPre := 0
  arrAct := 0
  ccrPre := 0
  ccrAct := 0
  ocm := .frozen
  ccOut := false
  ccp := .activeHigh
  ocpe := false
  arpe := false
  cce := false
  cen := false
  cnt := 0
  pscCnt := 0

/-- Both launch premises hold: R102 has the platform establish them before reset. -/
def Premises.established : Premises := ⟨true, true⟩

/-- The machine right after reset (R33, R100): every register 0, no response, and no step of either agent scheduled. -/
def State.reset : State := ⟨Regs.reset, none, [], Premises.established⟩

end Sys2Proof.Machine
end

