-- ==== Sys2Proof/Machine/Flags.lean ====
section
/-! DEFINITION. What is computed from the registers and kept nowhere: PWMCFG has no status flags or condition codes
(spec/10_state.md R35). The `configured` predicate (R29), the pin (spec/60_exceptions.md R94), the codes of the one-bit
registers and of the status (R19, R21, R58), the response word (R57), and the output ports (R31, R50). -/

namespace Sys2Proof.Machine

/-- `configured` is `CCE == 1` (R29). -/
def Regs.configured (r : Regs) : Bool := r.cce

/-- `active` of R94: the mode is PWM mode 1 and `CNT < CCR_ACT`, unsigned. -/
def Regs.active (r : Regs) : Bool := decide (r.ocm = .pwm1) && decide (r.cnt < r.ccrAct)

/-- `pwm_out` of R94: low while the channel is disabled or not an output, else `active xor CCP`. -/
def Regs.pwmOut (r : Regs) : Bool :=
  if r.cce = false ∨ r.ccOut = false then false else xor r.active (decide (r.ccp = .activeLow))

/-- The encoding of OCM (R19). -/
def OcMode.code : OcMode → BitVec 1
  | .frozen => 0
  | .pwm1 => 1

/-- The encoding of CCP (R21). -/
def Polarity.code : Polarity → BitVec 1
  | .activeHigh => 0
  | .activeLow => 1

/-- The encoding of the status (R58). -/
def Status.code : Status → BitVec 2
  | .ok => 0
  | .configError => 1
  | .illegalCmd => 2

/-- The response word `{status, value}` (R57). -/
def Response.word (r : Response) : RspWord := r.status.code ++ r.value

/-- A serialised response: 3 bytes, least significant first, with bits 23..18 zero (R37). -/
def Response.bytes (r : Response) : List Byte :=
  (List.range 3).map fun k => (r.word.setWidth 24).extractLsb' (8 * k) 8

/-- The output ports of R50 and R31 that a step model has: the response port (`none` is `rsp_valid = 0`), the pin, and the
observation outputs. -/
structure Ports where
  rsp : Option RspWord
  pwmOut : BitVec 1
  obsPsc : Half
  obsArrPre : Half
  obsArrAct : Half
  obsCcrPre : Half
  obsCcrAct : Half
  obsOcm : BitVec 1
  obsCcOut : BitVec 1
  obsCcp : BitVec 1
  obsOcpe : BitVec 1
  obsArpe : BitVec 1
  obsCce : BitVec 1
  obsCen : BitVec 1
  obsCnt : Half
  obsPscCnt : Half
  deriving DecidableEq, Repr

/-- What the environment sees; a function of the state, so reading changes nothing (R31, R40). -/
def State.ports (s : State) : Ports where
  rsp := s.rsp.map Response.word
  pwmOut := BitVec.ofBool s.regs.pwmOut
  obsPsc := s.regs.psc
  obsArrPre := s.regs.arrPre
  obsArrAct := s.regs.arrAct
  obsCcrPre := s.regs.ccrPre
  obsCcrAct := s.regs.ccrAct
  obsOcm := s.regs.ocm.code
  obsCcOut := BitVec.ofBool s.regs.ccOut
  obsCcp := s.regs.ccp.code
  obsOcpe := BitVec.ofBool s.regs.ocpe
  obsArpe := BitVec.ofBool s.regs.arpe
  obsCce := BitVec.ofBool s.regs.cce
  obsCen := BitVec.ofBool s.regs.cen
  obsCnt := s.regs.cnt
  obsPscCnt := s.regs.pscCnt

end Sys2Proof.Machine
end

