-- ==== Sys2Proof/Machine/Ops.lean ====
section
/-! DEFINITION. The named operations over the registers that commands and agents share: writing the auto-reload and
compare registers (spec/40_configure.md R69, spec/41_set_duty.md R79), loading the active registers (R68, R93), responding
and raising an error (spec/00_scope.md R10, spec/60_exceptions.md R86), the host's RESET (spec/70_reset_and_hazards.md
R100), and taking the next step from the schedule (spec/20_memory.md R44). -/

namespace Sys2Proof.Machine

/-- `WriteARR(v)` (R69): both copies while ARPE = 0, the preload copy alone while ARPE = 1. -/
def Regs.writeArr (r : Regs) (v : Half) : Regs :=
  if r.arpe then { r with arrPre := v } else { r with arrPre := v, arrAct := v }

/-- `WriteCCR(v)` (R79): both copies while OCPE = 0, the preload copy alone while OCPE = 1. -/
def Regs.writeCcr (r : Regs) (v : Half) : Regs :=
  if r.ocpe then { r with ccrPre := v } else { r with ccrPre := v, ccrAct := v }

/-- The copy of the preload registers into the active registers that R68 and R93 share. -/
def Regs.loadActive (r : Regs) : Regs := { r with arrAct := r.arrPre, ccrAct := r.ccrPre }

/-- `FORCE_UPDATE` (R68). -/
def Regs.forceUpdate (r : Regs) : Regs := r.loadActive

/-- `UPDATE_EVENT` (R93). -/
def Regs.updateEvent (r : Regs) : Regs := r.loadActive

/-- `respond(OK, value)` (R10, R57), with the registers that the command leaves, all written as one step (R43). -/
def Regs.complete (r : Regs) (value : Half) : Answer := (r, ⟨.ok, value⟩)

/-- Taking an error, the one exception PWMCFG has (R86): nothing is saved, no register is written, and the response word
with value 0 is all of it. There is no return from it (R88). -/
def Regs.raiseError (r : Regs) (status : Status) : Answer := (r, ⟨status, 0⟩)

/-- `raise CONFIG_ERROR` (R10, R85). -/
def Regs.raiseConfigError (r : Regs) : Answer := r.raiseError .configError

/-- A command word with a reserved opcode (R56). -/
def Regs.raiseIllegalCmd (r : Regs) : Answer := r.raiseError .illegalCmd

/-- `RESET` (R100): every register takes its reset value whatever it held, and a command presented while `rst` is 1 is not
issued. -/
def Regs.resetStep (_r : Regs) (_presented : List CmdWord) : Regs := Regs.reset

/-- The launch premise that fails, if one does (R101, 93 U3). -/
def Premises.broken (p : Premises) : Option Refusal :=
  if p.clockEnabled = false then some .clockNotEnabled
  else if p.pinRouted = false then some .pinNotRouted
  else none

/-- The state after a command: its registers, and its response on the response port. -/
def State.answer (s : State) (a : Answer) : State := { s with regs := a.1, rsp := some a.2 }

/-- The state after a step that issues no command: the response port shows none (R60; `rsp_valid` is 0 in reset, R100). -/
def State.quiet (s : State) (r : Regs) : State := { s with regs := r, rsp := none }

/-- The step that is taken next: the schedule's first, and the timer agent's when the schedule is empty, since the timer
agent always has a step (R44, R112). -/
def State.nextEvent (s : State) : Event := s.schedule.headD .clk

/-- The state with the next step taken out of the schedule. -/
def State.advance (s : State) : State := { s with schedule := s.schedule.tail }

/-- The state in which the host issues `w` at once, with both launch premises established. -/
def State.withCommand (s : State) (w : CmdWord) : State :=
  { s with schedule := .issue w :: s.schedule, premises := .established }

end Sys2Proof.Machine
end

