-- ==== Sys2Proof/Machine/Configurator.lean ====
section
/-! DEFINITION. CONFIGURE, the Timer Configurator (spec/40_configure.md). -/

namespace Sys2Proof.Machine

/-- The ten steps of CONFIGURE, in order (R67): the registers after them, and the compare value of step 9. -/
def configureSteps (p d : Word32) (r0 : Regs) : Regs × Half :=
  let r1 := { r0 with ccOut := true }
  let r2 := { r1 with ccp := .activeHigh }
  let r3 := { r2 with ocm := .pwm1 }
  let r4 := r3.writeArr (autoReloadOf p)
  let r5 := { r4 with psc := Config.pscFixed }
  let r6 := { r5 with ocpe := true }
  let r7 := { r6 with arpe := true }
  let r8 := r7.forceUpdate
  let c := mapDuty d r8.arrPre
  let r9 := r8.writeCcr c
  let r10 := { r9 with cce := true }
  (r10, c)

/-- CONFIGURE on the registers: the three checks of R66 in their order, then the ten steps of R67 and `{OK, c}`. -/
def Regs.configure (p d : Word32) (r : Regs) : Answer :=
  if r.configured then r.raiseConfigError
  else if p.toNat = 0 then r.raiseConfigError
  else if 65536 < p.toNat then r.raiseConfigError
  else (configureSteps p d r).1.complete (configureSteps p d r).2

/-- CONFIGURE (R65 to R71). -/
def execConfigure (p d : Word32) (s : State) : StepResult := .next (s.answer (s.regs.configure p d))

end Sys2Proof.Machine
end

