-- ==== Sys2Proof/Machine/Mapper.lean ====
section
/-! DEFINITION. SET_DUTY, the Duty-Cycle Mapper's command (spec/41_set_duty.md). -/

namespace Sys2Proof.Machine

/-- SET_DUTY on the registers: refused while unconfigured (R77); else it writes MAP of the duty and ARR_PRE to the compare
register and responds with that value (R78). -/
def Regs.setDuty (d : Word32) (r : Regs) : Answer :=
  if r.configured then (r.writeCcr (mapDuty d r.arrPre)).complete (mapDuty d r.arrPre) else r.raiseConfigError

/-- SET_DUTY (R77 to R81). -/
def execSetDuty (d : Word32) (s : State) : StepResult := .next (s.answer (s.regs.setDuty d))

end Sys2Proof.Machine
end

