-- ==== Sys2Proof/Machine/Starter.lean ====
section
/-! DEFINITION. START, the caller's counter-run command (spec/42_start.md). -/

namespace Sys2Proof.Machine

/-- START on the registers: refused while unconfigured (R82); else it sets CEN and responds `{OK, 0}` (R83). -/
def Regs.start (r : Regs) : Answer :=
  if r.configured then { r with cen := true }.complete 0 else r.raiseConfigError

/-- START (R82 to R84). -/
def execStart (s : State) : StepResult := .next (s.answer s.regs.start)

end Sys2Proof.Machine
end

