-- ==== Sys2Proof/Machine/Dispatch.lean ====
section
/-! DEFINITION. One arm per command. -/

namespace Sys2Proof.Machine

def exec (i : Instr) (s : State) : Host.Outcome State Fault Refusal :=
  match i with
  | .configure p d => Sys2Proof.Machine.execConfigure p d s
  | .setDuty d => Sys2Proof.Machine.execSetDuty d s
  | .start => Sys2Proof.Machine.execStart s

end Sys2Proof.Machine
end

