-- ==== Sys2Proof/Machine/Timer.lean ====
section
/-! DEFINITION. The timer agent (spec/60_exceptions.md R91 to R93). -/

namespace Sys2Proof.Machine

/-- `TICK` (R92): at the period boundary CNT restarts at 0 and the update event happens, else CNT counts up. -/
def Regs.tick (r : Regs) : Regs :=
  if r.arrAct ≤ r.cnt then { r with cnt := 0 }.updateEvent else { r with cnt := r.cnt + 1 }

/-- `CLK` (R91): while CEN = 1, a TICK on every `(PSC + 1)`-th step; while CEN = 0 nothing changes. -/
def Regs.clk (r : Regs) : Regs :=
  if r.cen then
    if r.psc ≤ r.pscCnt then { r with pscCnt := 0 }.tick else { r with pscCnt := r.pscCnt + 1 }
  else r

end Sys2Proof.Machine
end

