-- ==== Sys2Proof/Machine/Step.lean ====
section
/-! DEFINITION. One step of PWMCFG: one step of one of its two agents (spec/20_memory.md R44). -/

namespace Sys2Proof.Machine

/-- One step. A run whose launch premises fail has no meaning (R101, 93 U3). Else the next step of the schedule is taken:
a command word is decoded and executed, or answered ILLEGAL_CMD (R56, R87); or the timer agent steps (R91); or the host
resets the block (R100). -/
def step (s : State) : Host.Outcome State Fault Refusal :=
  match s.premises.broken with
  | some why => .refused why
  | none =>
    match s.nextEvent with
    | .issue w =>
      match decode w with
      | .ok i => exec i s.advance
      | .error _ => .next (s.advance.answer s.regs.raiseIllegalCmd)
    | .clk => .next (s.advance.quiet s.regs.clk)
    | .reset presented => .next (s.advance.quiet (s.regs.resetStep presented))

/-- PWMCFG fetches nothing (R15): an instruction comes to run when the host issues its word, so this is `s` with the
command word at the head of the schedule and the launch premises established. -/
def State.withFetchWord (s : State) (nbits w : Nat) : State := s.withCommand (tableWord nbits w)

end Sys2Proof.Machine
end

