-- ==== Sys2Proof/Machine/Assembler.lean ====
section
/-! DEFINITION. The assembler of spec/30_encoding.md section 5: the five kinds of program line (R62), the conversion of a
decimal duty literal to binary32 (R63), and the schedule of steps that a program stands for (R64). It is notation for
programs, no part of the hardware: PWMCFG sees the bit pattern only. -/

namespace Sys2Proof.Machine

/-- A `<duty>` literal (R62): a decimal real `± digits / 10^decimals`, a pattern `f32:0x...`, or one of the three names. -/
inductive DutyLit where
  | real (negative : Bool) (digits decimals : Nat)
  | pattern (b : Word32)
  | posInf
  | negInf
  | nan
  deriving DecidableEq, Repr

/-- A program line (R62). `RESET` and `CLK n` are steps of the other agents, not commands. -/
inductive Line where
  | configure (period : Nat) (duty : DutyLit)
  | setDuty (duty : DutyLit)
  | start
  | reset
  | clk (n : Nat)
  deriving DecidableEq, Repr

/-- A line's period literal is an integer 0..4294967295 (R62). -/
def Line.wellFormed : Line → Bool
  | .configure p _ => decide (p ≤ 4294967295)
  | .setDuty _ => true
  | .start => true
  | .reset => true
  | .clk _ => true

/-- The integer nearest to `n / d`, a tie going to the even one (R63, 93 K3). -/
def roundHalfEven (n d : Nat) : Nat :=
  if 2 * (n % d) < d ∨ (2 * (n % d) = d ∧ n / d % 2 = 0) then n / d else n / d + 1

/-- How many doublings above the smallest spacing, 2^-149, the binary32 numbers near `n / d` are spaced. -/
def f32Spacing (n d : Nat) : Nat := Nat.log2 (n * 2 ^ 149 / d) - 23

/-- The binary32 pattern, sign bit 0, of the non-negative real `n / d` rounded to nearest, ties to even (R63, 93 K3);
what rounds past the largest finite number gives +Inf (assumption 8). -/
def roundToF32 (n d : Nat) : Nat :=
  min (f32Spacing n d * 2 ^ 23 + roundHalfEven (n * 2 ^ 149) (d * 2 ^ f32Spacing n d)) 0x7F800000

/-- The pattern a duty literal assembles to (R62, R63). -/
def DutyLit.assemble : DutyLit → Word32
  | .real negative digits decimals =>
    BitVec.ofNat 32 ((if negative then 0x80000000 else 0) + roundToF32 digits (10 ^ decimals))
  | .pattern b => b
  | .posInf => 0x7F800000
  | .negInf => 0xFF800000
  | .nan => 0x7FC00000

/-- The steps a line stands for (R62); a command line is one issued command word. -/
def Line.assemble : Line → List Event
  | .configure p d => [.issue (encode (.configure (BitVec.ofNat 32 p) d.assemble))]
  | .setDuty d => [.issue (encode (.setDuty d.assemble))]
  | .start => [.issue (encode .start)]
  | .reset => [.reset []]
  | .clk n => List.replicate n .clk

/-- A program is a sequence of lines, and stands for their steps in order (R62, R64). -/
def assembleProgram (ls : List Line) : List Event := ls.flatMap Line.assemble

/-- A token of a line: a word or a comma. -/
inductive Token where
  | word (cs : List Char)
  | comma
  deriving DecidableEq, Repr

/-- The word gathered so far, last character first, as a token if there is one. -/
def wordToken : List Char → List Token
  | [] => []
  | c :: cs => [.word (c :: cs).reverse]

/-- The tokens of a line; blanks part words, and `;` starts a comment (R62). -/
def tokenize (acc : List Char) : List Char → List Token
  | [] => wordToken acc
  | ';' :: _ => wordToken acc
  | ',' :: cs => wordToken acc ++ .comma :: tokenize [] cs
  | ' ' :: cs => wordToken acc ++ tokenize [] cs
  | '\t' :: cs => wordToken acc ++ tokenize [] cs
  | c :: cs => tokenize (c :: acc) cs

/-- The value of a digit in base 10 or 16. -/
def digitValue (base : Nat) (c : Char) : Option Nat :=
  let n := c.toNat
  let v := if 48 ≤ n ∧ n ≤ 57 then n - 48 else if 65 ≤ n ∧ n ≤ 70 then n - 55
    else if 97 ≤ n ∧ n ≤ 102 then n - 87 else base
  if v < base then some v else none

/-- The number whose digits follow `acc`. -/
def digitsFrom (base acc : Nat) : List Char → Option Nat
  | [] => some acc
  | c :: cs =>
    match digitValue base c with
    | none => none
    | some v => digitsFrom base (acc * base + v) cs

/-- A number of at least one digit. -/
def parseDigits (base : Nat) : List Char → Option Nat
  | [] => none
  | c :: cs => digitsFrom base 0 (c :: cs)

/-- `<period>`: a decimal or 0x hexadecimal integer (R62). -/
def parseInteger : List Char → Option Nat
  | '0' :: 'x' :: cs => parseDigits 16 cs
  | cs => parseDigits 10 cs

/-- The digits before and after a decimal point. -/
def splitPoint (acc : List Char) : List Char → List Char × Option (List Char)
  | [] => (acc.reverse, none)
  | '.' :: cs => (acc.reverse, some cs)
  | c :: cs => splitPoint (c :: acc) cs

/-- An unsigned decimal real. -/
def parseReal (negative : Bool) (cs : List Char) : Option DutyLit :=
  match splitPoint [] cs with
  | (whole, none) => (parseDigits 10 whole).map (.real negative · 0)
  | (whole, some frac) =>
    if whole = [] ∨ frac = [] then none
    else (parseDigits 10 (whole ++ frac)).map (.real negative · frac.length)

/-- `<duty>`: a decimal real, `f32:0x` and eight hexadecimal digits, `+inf`, `-inf` or `nan` (R62). -/
def parseDuty : List Char → Option DutyLit
  | ['+', 'i', 'n', 'f'] => some .posInf
  | ['-', 'i', 'n', 'f'] => some .negInf
  | ['n', 'a', 'n'] => some .nan
  | 'f' :: '3' :: '2' :: ':' :: '0' :: 'x' :: cs =>
    if cs.length = 8 then (parseDigits 16 cs).map fun n => .pattern (BitVec.ofNat 32 n) else none
  | '-' :: cs => parseReal true cs
  | '+' :: cs => parseReal false cs
  | cs => parseReal false cs

/-- A line's tokens read as a line of R62; a line that is none of the five kinds, or is not well formed, gives nothing. -/
def parseTokens : List Token → Option Line
  | [.word ['C', 'O', 'N', 'F', 'I', 'G', 'U', 'R', 'E'], .word p, .comma, .word d] =>
    match parseInteger p, parseDuty d with
    | some p, some d => if (Line.configure p d).wellFormed then some (.configure p d) else none
    | _, _ => none
  | [.word ['S', 'E', 'T', '_', 'D', 'U', 'T', 'Y'], .word d] => (parseDuty d).map .setDuty
  | [.word ['S', 'T', 'A', 'R', 'T']] => some .start
  | [.word ['R', 'E', 'S', 'E', 'T']] => some .reset
  | [.word ['C', 'L', 'K'], .word n] => (parseDigits 10 n).map .clk
  | _ => none

/-- A line of program text (R62). -/
def parseLine (cs : List Char) : Option Line := parseTokens (tokenize [] cs)

end Sys2Proof.Machine
end

