-- ==== Sys2Proof/Machine/Relation.lean ====
section
/-! DEFINITION. The step relation of spec/10_state.md R32: its state is the fourteen registers and nothing else; the command
word, the choice of the agent that steps and the launch premises are its arguments; the response is its result. The
machine's `step` is this relation on a configuration that holds the arguments (assumption 15). -/

namespace Sys2Proof.Machine

/-- What a command does to the registers and responds. -/
def commandEffect (i : Instr) (r : Regs) : Answer :=
  match i with
  | .configure p d => r.configure p d
  | .setDuty d => r.setDuty d
  | .start => r.start

/-- What an issued command word does (R61): its command's effect, or ILLEGAL_CMD (R56). -/
def wordEffect (w : CmdWord) (r : Regs) : Answer :=
  match decode w with
  | .ok i => commandEffect i r
  | .error _ => r.raiseIllegalCmd

/-- The step relation (R32): with the launch premises and one agent's step for arguments, the registers after it and the
response it produces. It gives a run without the premises no meaning (R101, 93 U3). -/
def stepRegs (p : Premises) (e : Event) (r : Regs) : Host.Outcome (Regs × Option Response) Fault Refusal :=
  match p.broken with
  | some why => .refused why
  | none =>
    match e with
    | .issue w => .next ((wordEffect w r).1, some (wordEffect w r).2)
    | .clk => .next (r.clk, none)
    | .reset presented => .next (r.resetStep presented, none)

end Sys2Proof.Machine
end

