-- ==== Sys2Proof/Safety.lean ====
section
/-! DEFINITION. The predicates over states that the statements use: the launch premises, the compare invariant
(spec/10_state.md R28), the two kinds of reachable state (R34), and reachability. -/

namespace Sys2Proof.Machine

/-- Both launch premises hold: the hypothesis of every claim about a step (R101). -/
def State.Launched (s : State) : Prop := s.premises.clockEnabled = true ∧ s.premises.pinRouted = true

/-- The compare invariant of R28. A state that breaks it is FSW's error state: the output can stay high for ever (R95). -/
def Regs.CompareInBounds (r : Regs) : Prop := r.ccrPre ≤ r.arrPre ∧ r.ccrAct ≤ r.arrAct

/-- R34 (b): the registers after a successful CONFIGURE. -/
structure Regs.IsConfigured (r : Regs) : Prop where
  psc_fixed : r.psc = Config.pscFixed
  auto_reload : r.arrAct = r.arrPre
  mode : r.ocm = .pwm1
  direction : r.ccOut = true
  polarity : r.ccp = .activeHigh
  compare_preload : r.ocpe = true
  reload_preload : r.arpe = true
  output : r.cce = true
  compare_pre : ∃ d, r.ccrPre = mapDuty d r.arrPre
  compare_act : r.ccrAct = 0 ∨ ∃ d, r.ccrAct = mapDuty d r.arrPre
  stopped : r.cen = false → r.cnt = 0 ∧ r.pscCnt = 0 ∧ r.ccrAct = 0
  count_in_period : r.cnt ≤ r.arrAct
  prescale_in_range : r.pscCnt ≤ r.psc

/-- R34: a reachable state is unconfigured, exactly the reset state of R33, or configured. -/
def Regs.Inv (r : Regs) : Prop := r = Regs.reset ∨ r.IsConfigured

/-- The states of every run from reset, whatever the two agents' schedule and its interleaving (R44). -/
inductive State.Reachable : State → Prop where
  | reset (schedule : List Event) : Reachable { State.reset with schedule := schedule }
  | step (s t : State) : Reachable s → Machine.step s = .next t → Reachable t

/-- How many CLK steps a running timer takes up to its next period boundary, that CLK step included (R91, R92). -/
def Regs.clocksToBoundary (r : Regs) : Nat :=
  (r.arrAct.toNat - r.cnt.toNat) * (r.psc.toNat + 1) + (r.psc.toNat - r.pscCnt.toNat) + 1

/-- A step of the host's SET_DUTY command or of the timer agent. -/
def Event.IsDutyOrClk (e : Event) : Prop := e = .clk ∨ ∃ d, e = .issue (encode (.setDuty d))

/-- The registers after `n` steps of the timer agent. -/
def Regs.clkN : Nat → Regs → Regs
  | 0, r => r
  | n + 1, r => clkN n r.clk

end Sys2Proof.Machine
end

