-- ==== Sys2Proof/Certificates/Slice0/Obligations.lean ====
section
/-! DEFINITION. The statements for the provers. -/

open Sys2Proof Sys2Proof.Machine

/-! ### Reset, the build parameters, the launch premises -/

/-- Every register is 0 after reset, as the observation outputs show it, the pin is low and the block is not configured
(R33). No response is present: that clause is R100's `rsp_valid` 0 in the form of assumption 2, the model's choice. -/
def Obligations.ResetRegistersAreAllZero : Prop :=
  State.reset.ports =
    { rsp := none, pwmOut := 0, obsPsc := 0, obsArrPre := 0, obsArrAct := 0, obsCcrPre := 0, obsCcrAct := 0, obsOcm := 0,
      obsCcOut := 0, obsCcp := 0, obsOcpe := 0, obsArpe := 0, obsCce := 0, obsCen := 0, obsCnt := 0, obsPscCnt := 0 } ∧
  State.reset.regs.ocm = .frozen ∧ State.reset.regs.ccp = .activeHigh ∧ State.reset.regs.configured = false

/-- R100 (all but the handshake output `cmd_ready`): the RESET step replaces the registers by the reset registers whatever
they were, with the pin low and no response, whatever commands were presented meanwhile. -/
def Obligations.ResetStepReplacesTheRegisters : Prop :=
  ∀ (s : State) (presented : List CmdWord) (rest : List Event), s.Launched → s.schedule = .reset presented :: rest →
    step s = .next { s with regs := Regs.reset, rsp := none, schedule := rest } ∧ Regs.reset.pwmOut = false

/-- R100, R84, R25, R24: a step that is not RESET clears neither CCE nor CEN. -/
def Obligations.OnlyResetClearsCceOrCen : Prop :=
  ∀ s t : State, step s = .next t → (∀ presented, s.nextEvent ≠ .reset presented) →
    (s.regs.cce = true → t.regs.cce = true) ∧ (s.regs.cen = true → t.regs.cen = true)

/-- R7: the parameter sets that build, the divider each gives, and that the model's own open parameters are one of them. -/
def Obligations.BuildAcceptsExactlyTheLegalParameters : Prop :=
  (∀ (fClk fTick : Nat) (psc : Half),
    Config.buildPsc fClk fTick = some psc ↔
      0 < fClk ∧ 0 < fTick ∧ fClk % fTick = 0 ∧ 1 ≤ fClk / fTick ∧ fClk / fTick ≤ 65536 ∧
        psc.toNat = fClk / fTick - 1) ∧
  Config.buildPsc Config.fClkHz Config.fTickHz = some Config.pscFixed

/-- R101 and 93 U3: with a launch premise false the run has no meaning, and the step says which premise. -/
def Obligations.BrokenLaunchPremiseIsRefused : Prop :=
  ∀ s : State,
    (s.premises.clockEnabled = false → step s = .refused .clockNotEnabled) ∧
    (s.premises.clockEnabled = true → s.premises.pinRouted = false → step s = .refused .pinNotRouted)

/-! ### Steps and responses -/

/-- A step runs the decoded command: the host's word is taken from the schedule, and the step is `exec` of the command. -/
def Obligations.StepRunsTheDecodedCommand : Prop :=
  ∀ (s : State) (w : CmdWord) (i : Instr) (rest : List Event),
    s.Launched → s.schedule = .issue w :: rest → decode w = .ok i → step s = exec i { s with schedule := rest }

/-- A scheduled CLK, and the step of an empty schedule (assumption 1), is the timer agent's. -/
def Obligations.StepRunsTheTimerAgent : Prop :=
  ∀ s : State, s.Launched →
    (∀ rest, s.schedule = .clk :: rest → step s = .next { s with regs := s.regs.clk, rsp := none, schedule := rest }) ∧
    (s.schedule = [] → step s = .next { s with regs := s.regs.clk, rsp := none })

/-- R57: every issued word gives exactly one response word, `{status, value}` in bits 17:16 and 15:0; a step that issues
no command gives none. -/
def Obligations.EveryIssuedCommandGetsOneResponse : Prop :=
  ∀ s : State, s.Launched → ∃ t : State, step s = .next t ∧
    ((∃ w rest, s.schedule = .issue w :: rest) →
      ∃ r : Response, t.rsp = some r ∧ t.ports.rsp = some r.word ∧
        r.word.extractLsb' 16 2 = r.status.code ∧ r.word.extractLsb' 0 16 = r.value) ∧
    ((∀ w rest, s.schedule ≠ .issue w :: rest) → t.rsp = none)

/-- R58: the status codes, none of which is 3. -/
def Obligations.ResponseStatusCodes : Prop :=
  Status.ok.code = 0 ∧ Status.configError.code = 1 ∧ Status.illegalCmd.code = 2 ∧ ∀ st : Status, st.code ≠ 3

/-- R85: exactly when each error status is produced, for every word issued; an error carries value 0 and nothing is
recorded in a register. -/
def Obligations.ErrorStatusesHaveExactlyTheseCauses : Prop :=
  ∀ (s t : State) (w : CmdWord) (rest : List Event), s.Launched → s.schedule = .issue w :: rest → step s = .next t →
    (t.rsp = some ⟨.configError, 0⟩ ↔
      (opField w = 0x01 ∧ (s.regs.cce = true ∨ (periodField w).toNat = 0 ∨ 65536 < (periodField w).toNat)) ∨
      (opField w = 0x02 ∧ s.regs.cce = false) ∨ (opField w = 0x03 ∧ s.regs.cce = false)) ∧
    (t.rsp = some ⟨.illegalCmd, 0⟩ ↔ opField w = 0x00 ∨ 0x04 ≤ opField w) ∧
    (∀ r : Response, t.rsp = some r → r.status ≠ .ok → r.value = 0 ∧ t.regs = s.regs)

/-- R86: an issued word whose response is not OK writes no register, and its value is 0. -/
def Obligations.ErroringCommandWritesNothing : Prop :=
  ∀ (s t : State) (w : CmdWord) (rest : List Event) (r : Response), s.Launched → s.schedule = .issue w :: rest →
    step s = .next t → t.rsp = some r → r.status ≠ .ok →
    r.value = 0 ∧ t = { s with rsp := some r, schedule := rest }

/-- R88: an error leaves nothing behind. The next word runs as if the erroring one had not been issued, and the same word
again gives the same error. -/
def Obligations.ErrorsLeaveNothingBehind : Prop :=
  ∀ (s t : State) (w v : CmdWord) (rest : List Event) (r : Response), s.Launched →
    s.schedule = .issue w :: .issue v :: rest → step s = .next t → t.rsp = some r → r.status ≠ .ok →
    step t = step { s with schedule := .issue v :: rest } ∧
    (v = w → step t = .next { s with rsp := some r, schedule := rest })

/-- R56: a word with a reserved opcode, the all-zero and the all-ones word among them, writes no register and responds
ILLEGAL_CMD with value 0. -/
def Obligations.ReservedOpcodesAreIllegal : Prop :=
  (∀ (s : State) (w : CmdWord) (rest : List Event), s.Launched → s.schedule = .issue w :: rest →
    (opField w = 0x00 ∨ 0x04 ≤ opField w) →
    step s = .next { s with rsp := some ⟨.illegalCmd, 0⟩, schedule := rest }) ∧
  opField 0x000000000000000000#72 = 0x00 ∧ 0x04 ≤ opField 0xFFFFFFFFFFFFFFFFFF#72

/-! ### Encoding -/

/-- Decoding an encoded command gives it back, with every operand at every value, from the word and from its bytes. -/
def Obligations.DecodeUndoesEncode : Prop :=
  ∀ i : Instr, i.wellFormed = true → decode (encode i) = .ok i ∧ decodeBytes (bytesOfWord (encode i)) = .ok i

/-- Encoding a decoded command gives the word back on every bit the command reads, and 0 elsewhere. -/
def Obligations.EncodeUndoesDecodeOnUsedBits : Prop :=
  ∀ (w : CmdWord) (i : Instr), decode w = .ok i → encode i = w &&& i.usedBits

/-- R52: the decoder reads `op` alone. -/
def Obligations.DecoderReadsOpcodeAlone : Prop :=
  ∀ w : CmdWord,
    (opField w = 0x01 → decode w = .ok (.configure (periodField w) (dutyField w))) ∧
    (opField w = 0x02 → decode w = .ok (.setDuty (dutyField w))) ∧
    (opField w = 0x03 → decode w = .ok .start) ∧
    (opField w = 0x00 ∨ 0x04 ≤ opField w → decode w = .error (.reservedOpcode (opField w)))

/-- R55: any bit pattern in a field that the command ignores decodes to the same command; the encoder writes zero there. -/
def Obligations.IgnoredFieldsHaveNoEffect : Prop :=
  (∀ p d : Word32, decode (packCommand 0x02 p d) = .ok (.setDuty d) ∧ decode (packCommand 0x03 p d) = .ok .start) ∧
  (∀ d : Word32, periodField (encode (.setDuty d)) = 0) ∧
  periodField (encode .start) = 0 ∧ dutyField (encode .start) = 0

/-- R37: a command word is 9 bytes and a response word 3, least significant byte first, with bits 23..18 of the latter
zero; the bytes of a command word give it back. -/
def Obligations.WordsSerialiseLeastSignificantByteFirst : Prop :=
  (∀ w : CmdWord, (bytesOfWord w).length = 9 ∧ wordOfBytes (bytesOfWord w) = w ∧
    ∀ k, k < 9 → (bytesOfWord w)[k]? = some (w.extractLsb' (8 * k) 8)) ∧
  (∀ r : Response, r.bytes.length = 3 ∧
    r.bytes[0]? = some (r.word.extractLsb' 0 8) ∧ r.bytes[1]? = some (r.word.extractLsb' 8 8) ∧
    r.bytes[2]? = some ((r.word.extractLsb' 16 2).setWidth 8))

/-- Words written out from the encoding of R51 and R52 (the vectors of 95_test_vectors.md 2.1). -/
def Obligations.VectorWordsDecode : Prop :=
  decode 0x0100004E2041700000#72 = .ok (.configure 20000 0x41700000) ∧
  decode 0x010001000041A00000#72 = .ok (.configure 65536 0x41A00000) ∧
  decode 0x02DEADBEEFC2480000#72 = .ok (.setDuty 0xC2480000) ∧
  decode 0x03FFFFFFFFFFFFFFFF#72 = .ok .start ∧
  decode 0x040000000000000000#72 = .error (.reservedOpcode 0x04)

/-- R63: a decimal literal of either sign assembles to the nearest finite binary32 number, a tie going to the even
significand, wherever the result is finite (`b`, `c` range over the finite patterns of both signs; a pattern's low bit is
its significand's); and a literal's sign is the sign bit of its pattern, over the pattern of its magnitude. For a
negative literal that is 0 or rounds to 0 that clause is assumption 9, the model's choice: it assembles to 0x80000000. -/
def Obligations.DecimalDutyLiteralsRoundToNearestEven : Prop :=
  (∀ (negative : Bool) (n decimals : Nat) (b c : Word32) (x y v : Rat),
    (DutyLit.real negative n decimals).assemble = b → f32val b = some (.fin x) → f32val c = some (.fin y) →
    v = applySign negative ((n : Rat) / 10 ^ decimals) →
    |x - v| ≤ |y - v| ∧ (|x - v| = |y - v| → b ≠ c → b.getLsbD 0 = false)) ∧
  (∀ n decimals : Nat,
    (DutyLit.real false n decimals).assemble ≤ 0x7F800000 ∧
    (DutyLit.real true n decimals).assemble = 0x80000000 ||| (DutyLit.real false n decimals).assemble)

/-! ### MAP -/

/-- The MAP the commands use is `round_half_up(normalized * a)` over exact rationals (R72), for every one of the 2^32
patterns and every auto-reload value. That the integer form agrees with the rational one is the spec's own derivation, and
that the commands use the integer form is assumption 10 (DEDUCED); and the clamp of R72 is the clamp of the percentage divided by 100. -/
def Obligations.MapIsTheExactRationalMap : Prop :=
  (∀ (d : Word32) (a : Half), ((mapDuty d a).toNat : Int) = roundHalfUp (normalizedDuty d * (a.toNat : Rat))) ∧
  (∀ x : ExtRat, clamp x.percent (1 / 10) (1 / 5) = clamp x 10 20 / 100)

/-- The band and the bound of MAP (R75 (1) and (2), which the spec marks as its own derivation). -/
def Obligations.MapStaysInBandAndBelowAutoReload : Prop :=
  ∀ (d : Word32) (a : Half),
    lowBand a ≤ (mapDuty d a).toNat ∧ (mapDuty d a).toNat ≤ highBand a ∧ highBand a ≤ a.toNat ∧ mapDuty d a ≤ a

/-- MAP is within one half of the exact product (R75 (3), the spec's own derivation). -/
def Obligations.MapIsWithinHalfOfExact : Prop :=
  ∀ (d : Word32) (a : Half), |((mapDuty d a).toNat : Rat) - normalizedDuty d * (a.toNat : Rat)| ≤ 1 / 2

/-- MAP is monotone in the value of the duty operand (R75 (4), the spec's own derivation). -/
def Obligations.MapIsMonotoneInTheDuty : Prop :=
  ∀ (d1 d2 : Word32) (x1 x2 : ExtRat) (a : Half), f32val d1 = some x1 → f32val d2 = some x2 → x1.le x2 →
    mapDuty d1 a ≤ mapDuty d2 a

/-- NaN, the infinities, and the finite values below, inside and above the band (R74, the spec's own derivation). -/
def Obligations.SpecialDutyOperandsAreCorrected : Prop :=
  ∀ d : Word32,
    (f32val d = none → clampedPercent d = 10 * 2 ^ 20) ∧
    (f32val d = some .negInf → clampedPercent d = 10 * 2 ^ 20) ∧
    (f32val d = some .posInf → clampedPercent d = 20 * 2 ^ 20) ∧
    (∀ x : Rat, f32val d = some (.fin x) →
      (clampedPercent d : Rat) = (if x < 10 then 10 else if 20 < x then 20 else x) * 2 ^ 20)

/-- FSW's unrounded bounds fail: the conflict C3's counterexamples, in integers (R75 (6), the spec's own derivation). -/
def Obligations.UnroundedBoundsDoNotHold : Prop :=
  mapDuty 0x43FA0000 19999 = 4000 ∧ ¬ (10 * (mapDuty 0x43FA0000 19999).toNat ≤ 2 * 19999) ∧
  mapDuty 0xC2480000 4 = 0 ∧ ¬ (4 + 1 ≤ 10 * (mapDuty 0xC2480000 4).toNat)

/-! ### CONFIGURE -/

/-- R66: the three refusals, and that nothing else is refused. -/
def Obligations.ConfigureRefusals : Prop :=
  ∀ (p d : Word32) (s : State),
    ((s.regs.cce = true ∨ p.toNat = 0 ∨ 65536 < p.toNat) →
      exec (.configure p d) s = .next { s with rsp := some ⟨.configError, 0⟩ }) ∧
    (s.regs.cce = false → p.toNat ≠ 0 → p.toNat ≤ 65536 →
      ∃ (t : State) (v : Half), exec (.configure p d) s = .next t ∧ t.rsp = some ⟨.ok, v⟩)

/-- R67: the registers and the response after the ten steps, from any state in which no check fires. CCR_ACT is loaded with
the CCR_PRE from before (step 8 precedes step 9). CEN, CNT and PSC_CNT are not written. -/
def Obligations.ConfigureRunsItsTenSteps : Prop :=
  ∀ (p d : Word32) (a : Half) (s : State), s.regs.cce = false → 1 ≤ p.toNat → p.toNat ≤ 65536 → a.toNat = p.toNat - 1 →
    exec (.configure p d) s =
      .next { s with
        regs :=
          { psc := Config.pscFixed, arrPre := a, arrAct := a, ccrPre := mapDuty d a, ccrAct := s.regs.ccrPre,
            ocm := .pwm1, ccOut := true, ccp := .activeHigh, ocpe := true, arpe := true, cce := true,
            cen := s.regs.cen, cnt := s.regs.cnt, pscCnt := s.regs.pscCnt }
        rsp := some ⟨.ok, mapDuty d a⟩ }

/-- The state after a successful CONFIGURE from reset (the table of R70, the spec's own derivation): the initial compare
value is pending in CCR_PRE, CCR_ACT is 0, the counter is stopped and the pin is low. -/
def Obligations.ConfigureFromResetLeavesCompareValuePending : Prop :=
  ∀ (p d : Word32) (a : Half) (s : State), s.regs = Regs.reset → 1 ≤ p.toNat → p.toNat ≤ 65536 →
    a.toNat = p.toNat - 1 → ∃ t : State, exec (.configure p d) s = .next t ∧ t.rsp = some ⟨.ok, mapDuty d a⟩ ∧
      t.regs = ⟨Config.pscFixed, a, a, mapDuty d a, 0, .pwm1, true, .activeHigh, true, true, true, false, 0, 0⟩ ∧
      t.regs.pwmOut = false

/-- R68: the forced update event copies the two preload registers and does nothing else; and CONFIGURE always runs with
the counters at 0 in the states of R34. -/
def Obligations.ForceUpdateCopiesOnly : Prop :=
  (∀ r : Regs, r.forceUpdate = { r with arrAct := r.arrPre, ccrAct := r.ccrPre } ∧ r.forceUpdate = r.updateEvent) ∧
  (∀ r : Regs, r.Inv → r.cce = false → r.cnt = 0 ∧ r.pscCnt = 0)

/-- R69: a write of the auto-reload register under either value of ARPE; CONFIGURE finds ARPE 0 in the states of R34 and
leaves both copies equal in any state. -/
def Obligations.AutoReloadWriteFollowsArpe : Prop :=
  (∀ (r : Regs) (v : Half),
    (r.arpe = false → r.writeArr v = { r with arrPre := v, arrAct := v }) ∧
    (r.arpe = true → r.writeArr v = { r with arrPre := v })) ∧
  (∀ r : Regs, r.Inv → r.cce = false → r.arpe = false) ∧
  (∀ (p d : Word32) (r : Regs), 1 ≤ p.toNat → p.toNat ≤ 65536 →
    (configureSteps p d r).1.arrPre.toNat = p.toNat - 1 ∧ (configureSteps p d r).1.arrAct.toNat = p.toNat - 1)

/-! ### SET_DUTY -/

/-- R77: SET_DUTY is refused exactly while unconfigured; no operand is refused. -/
def Obligations.SetDutyRefusedOnlyWhileUnconfigured : Prop :=
  ∀ (d : Word32) (s : State),
    (s.regs.cce = false → exec (.setDuty d) s = .next { s with rsp := some ⟨.configError, 0⟩ }) ∧
    (s.regs.cce = true → ∃ (t : State) (v : Half), exec (.setDuty d) s = .next t ∧ t.rsp = some ⟨.ok, v⟩)

/-- R78: SET_DUTY when configured writes the compare register with MAP of the duty and ARR_PRE, responds with it, and
changes nothing else; and in the configured states of R34 the two auto-reload copies are equal and OCPE is 1. -/
def Obligations.SetDutyWritesTheCompareRegister : Prop :=
  (∀ (d : Word32) (s : State), s.regs.cce = true →
    exec (.setDuty d) s =
      .next { s with
        regs := { s.regs with
          ccrPre := mapDuty d s.regs.arrPre
          ccrAct := if s.regs.ocpe then s.regs.ccrAct else mapDuty d s.regs.arrPre }
        rsp := some ⟨.ok, mapDuty d s.regs.arrPre⟩ }) ∧
  (∀ r : Regs, r.Inv → r.cce = true → r.arrPre = r.arrAct ∧ r.ocpe = true)

/-- R79: a write of the compare register under either value of OCPE. Every write has OCPE = 1: that of CONFIGURE, from any
registers, leaves the CCR_ACT that step 8 loaded (the CCR_PRE from before); and in the configured states of R34, where
SET_DUTY writes, OCPE is 1. -/
def Obligations.CompareWriteFollowsOcpe : Prop :=
  (∀ (r : Regs) (v : Half),
    (r.ocpe = false → r.writeCcr v = { r with ccrPre := v, ccrAct := v }) ∧
    (r.ocpe = true → r.writeCcr v = { r with ccrPre := v })) ∧
  (∀ (p d : Word32) (r : Regs),
    (configureSteps p d r).1.ocpe = true ∧ (configureSteps p d r).1.ccrPre = (configureSteps p d r).2 ∧
      (configureSteps p d r).1.ccrAct = r.ccrPre) ∧
  (∀ r : Regs, r.Inv → r.cce = true → r.ocpe = true)

/-- The same SET_DUTY twice, with any number of CLK steps between, responds with the same value and leaves the same
CCR_PRE (R75 (5), FSW P3). -/
def Obligations.SetDutyTwiceGivesTheSameValue : Prop :=
  ∀ (d : Word32) (n : Nat) (s t : State), s.regs.cce = true → exec (.setDuty d) s = .next t →
    ∃ u : State, exec (.setDuty d) { t with regs := Regs.clkN n t.regs } = .next u ∧
      u.rsp = t.rsp ∧ u.regs.ccrPre = t.regs.ccrPre

/-- The last of any number of SET_DUTY commands before a period boundary is the one that counts (R49, R80). First, with
nothing between the commands, running or not: it waits in CCR_PRE, and CCR_ACT and the pin do not change. Second, on a
running configured timer with CLK steps in any places between and after the commands, up to the boundary: no earlier value
and no new one reaches CCR_ACT or the pin before the boundary, and the boundary loads the last. -/
def Obligations.LastDutyBeforeTheBoundaryWins : Prop :=
  (∀ (ds : List Word32) (d : Word32) (s : State), s.Launched → s.regs.cce = true → s.regs.ocpe = true →
    s.schedule = (ds ++ [d]).map (fun e => Event.issue (encode (.setDuty e))) →
    ∃ t : State, core.run (ds.length + 1) s = .next t ∧
      t.regs = { s.regs with ccrPre := mapDuty d s.regs.arrPre } ∧
      t.rsp = some ⟨.ok, mapDuty d s.regs.arrPre⟩ ∧ t.regs.pwmOut = s.regs.pwmOut) ∧
  (∀ (es : List Event) (d : Word32) (m : Nat) (s : State), s.Launched → s.regs.IsConfigured → s.regs.cen = true →
    (∀ e ∈ es, e.IsDutyOrClk) → es.count .clk + m + 1 = s.regs.clocksToBoundary →
    s.schedule = es ++ .issue (encode (.setDuty d)) :: List.replicate (m + 1) .clk →
    (∀ j, j ≤ es.length + 1 + m → ∃ t : State, core.run j s = .next t ∧ t.regs.ccrAct = s.regs.ccrAct ∧
      (t.regs.pwmOut = true ↔ t.regs.cnt < s.regs.ccrAct)) ∧
    ∃ t : State, core.run (es.length + 1 + m + 1) s = .next t ∧ t.regs.cnt = 0 ∧
      t.regs.ccrAct = mapDuty d s.regs.arrPre ∧ (t.regs.pwmOut = true ↔ 0 < mapDuty d s.regs.arrPre))

/-- R45: a SET_DUTY and the period boundary at the same edge, in either order. After the boundary CCR_ACT holds the whole
new value or the whole old one, and CCR_PRE the new one. -/
def Obligations.CoincidentWriteIsNeverMixed : Prop :=
  ∀ (d : Word32) (s : State), s.Launched → s.regs.cce = true → s.regs.ocpe = true → s.regs.cen = true →
    s.regs.psc ≤ s.regs.pscCnt → s.regs.arrAct ≤ s.regs.cnt →
    (∃ t : State, core.run 2 { s with schedule := [.issue (encode (.setDuty d)), .clk] } = .next t ∧
      t.regs.ccrAct = mapDuty d s.regs.arrPre ∧ t.regs.ccrPre = mapDuty d s.regs.arrPre) ∧
    (∃ t : State, core.run 2 { s with schedule := [.clk, .issue (encode (.setDuty d))] } = .next t ∧
      t.regs.ccrAct = s.regs.ccrPre ∧ t.regs.ccrPre = mapDuty d s.regs.arrPre)

/-- After a SET_DUTY on a configured timer the response and CCR_PRE have the new value at once (R80). While the timer runs,
CCR_ACT and the pulse on the pin keep the old value until a CLK step at most `(ARR_ACT + 1) * (PSC + 1)` later loads the
new one; with the counter stopped they keep it for ever. The CLK steps are those of an empty schedule (assumption 1, the
model's choice). -/
def Obligations.NewDutyIsActiveWithinOnePeriod : Prop :=
  ∀ (d : Word32) (s : State), s.Launched → s.regs.Inv → s.regs.cce = true →
    s.schedule = [.issue (encode (.setDuty d))] →
    (∃ t : State, core.run 1 s = .next t ∧ t.rsp = some ⟨.ok, mapDuty d s.regs.arrPre⟩ ∧
      t.ports.obsCcrPre = mapDuty d s.regs.arrPre) ∧
    (s.regs.cen = true →
      ∃ k, 1 ≤ k ∧ k ≤ (s.regs.arrAct.toNat + 1) * (s.regs.psc.toNat + 1) ∧
        (∀ j, j < k → ∃ t : State, core.run (1 + j) s = .next t ∧ t.regs.ccrAct = s.regs.ccrAct ∧
          (t.regs.pwmOut = true ↔ t.regs.cnt < s.regs.ccrAct)) ∧
        ∃ t : State, core.run (1 + k) s = .next t ∧ t.regs.ccrAct = mapDuty d s.regs.arrPre) ∧
    (s.regs.cen = false → ∀ j, ∃ t : State, core.run (1 + j) s = .next t ∧ t.regs.ccrAct = s.regs.ccrAct ∧
      (t.regs.pwmOut = true ↔ t.regs.cnt < s.regs.ccrAct))

/-! ### START -/

/-- R83, with the refusal of R82: START is refused while unconfigured; else it writes CEN only and responds `{OK, 0}`; and
the first START finds both counters at 0 in the states of R34. -/
def Obligations.StartSetsTheCounterRunBitOnly : Prop :=
  ∀ s : State,
    (s.regs.cce = false → exec .start s = .next { s with rsp := some ⟨.configError, 0⟩ }) ∧
    (s.regs.cce = true → exec .start s = .next { s with regs := { s.regs with cen := true }, rsp := some ⟨.ok, 0⟩ }) ∧
    (s.regs.Inv → s.regs.cen = false → s.regs.cnt = 0 ∧ s.regs.pscCnt = 0)

/-- R84: START on a running configured timer writes 1 over 1: no register changes and the response is `{OK, 0}`. -/
def Obligations.StartAgainChangesNothing : Prop :=
  ∀ s : State, s.regs.cce = true → s.regs.cen = true → exec .start s = .next { s with rsp := some ⟨.ok, 0⟩ }

/-- R104: CONFIGURE does not start the counter; until START, in the states of R34, the pin stays low and no CLK step is a
period boundary (none changes anything). -/
def Obligations.SilentUntilStart : Prop :=
  (∀ (p d : Word32) (s t : State), exec (.configure p d) s = .next t → t.regs.cen = s.regs.cen) ∧
  (∀ r : Regs, r.Inv → r.cen = false → r.pwmOut = false ∧ ∀ n, Regs.clkN n r = r)

/-! ### Frames over all commands and both agents -/

/-- R65, R30: a command that is not CONFIGURE leaves PSC, the auto-reload register and every flag but CEN as they were. -/
def Obligations.OnlyConfigureWritesTheTimeBase : Prop :=
  ∀ (i : Instr) (s t : State), exec i s = .next t → (∀ p d, i ≠ .configure p d) →
    t.regs.psc = s.regs.psc ∧ t.regs.arrPre = s.regs.arrPre ∧ t.regs.arrAct = s.regs.arrAct ∧
    t.regs.ocm = s.regs.ocm ∧ t.regs.ccOut = s.regs.ccOut ∧ t.regs.ccp = s.regs.ccp ∧ t.regs.ocpe = s.regs.ocpe ∧
    t.regs.arpe = s.regs.arpe ∧ t.regs.cce = s.regs.cce

/-- R98, R25: no command writes CNT or PSC_CNT, and only START writes CEN; nor does a command touch the schedule or the
premises. -/
def Obligations.NoCommandWritesTheCounters : Prop :=
  ∀ (i : Instr) (s t : State), exec i s = .next t →
    t.regs.cnt = s.regs.cnt ∧ t.regs.pscCnt = s.regs.pscCnt ∧ (i ≠ .start → t.regs.cen = s.regs.cen) ∧
    t.schedule = s.schedule ∧ t.premises = s.premises

/-- R30: any number of steps of the timer agent write CNT, PSC_CNT, ARR_ACT and CCR_ACT only. -/
def Obligations.TimerAgentWritesItsRegistersOnly : Prop :=
  ∀ (n : Nat) (r : Regs), ∃ cnt pscCnt arrAct ccrAct,
    Regs.clkN n r = { r with cnt := cnt, pscCnt := pscCnt, arrAct := arrAct, ccrAct := ccrAct }

/-- What a command responds and writes does not depend on how many CLK steps came before it (R44; the note of
95_test_vectors.md section 3). -/
def Obligations.CommandResultsDoNotDependOnTheSchedule : Prop :=
  ∀ (i : Instr) (n : Nat) (s t u : State), exec i s = .next t →
    exec i { s with regs := Regs.clkN n s.regs } = .next u →
    u.rsp = t.rsp ∧ u.regs.psc = t.regs.psc ∧ u.regs.arrPre = t.regs.arrPre ∧ u.regs.ccrPre = t.regs.ccrPre ∧
    u.regs.ocm = t.regs.ocm ∧ u.regs.ccOut = t.regs.ccOut ∧ u.regs.ccp = t.regs.ccp ∧ u.regs.ocpe = t.regs.ocpe ∧
    u.regs.arpe = t.regs.arpe ∧ u.regs.cce = t.regs.cce ∧ u.regs.cen = t.regs.cen

/-- R29: CCE is 1 exactly when a CONFIGURE has succeeded since reset, step by step. -/
def Obligations.ConfiguredExactlyAfterASuccessfulConfigure : Prop :=
  State.reset.regs.configured = false ∧
  ∀ s t : State, step s = .next t →
    (t.regs.configured = true ↔
      (∀ presented, s.nextEvent ≠ .reset presented) ∧
      (s.regs.configured = true ∨
        ∃ w p d v, s.nextEvent = .issue w ∧ decode w = .ok (.configure p d) ∧ t.rsp = some ⟨.ok, v⟩))

/-! ### The timer agent and the pin -/

/-- R91: the CLK step, the rate of ticks it gives, and that PSC_CNT does not pass PSC in the states of R34. -/
def Obligations.ClkDividesByPscPlusOne : Prop :=
  (∀ r : Regs,
    (r.cen = false → r.clk = r) ∧
    (r.cen = true → r.psc ≤ r.pscCnt → r.clk = { r with pscCnt := 0 }.tick) ∧
    (r.cen = true → r.pscCnt < r.psc → r.clk = { r with pscCnt := r.pscCnt + 1 })) ∧
  (∀ r : Regs, r.cen = true → r.pscCnt = 0 →
    (∀ n, n ≤ r.psc.toNat → Regs.clkN n r = { r with pscCnt := BitVec.ofNat 16 n }) ∧
    Regs.clkN (r.psc.toNat + 1) r = r.tick) ∧
  (∀ r : Regs, r.Inv → r.pscCnt ≤ r.psc)

/-- R92: the TICK, with the comparison before the update event; the counter stays in 0..ARR_ACT in the states of R34, and
with ARR_ACT = 0 and CNT = 0 every tick is a boundary. -/
def Obligations.TickCountsAndRestartsAtAutoReload : Prop :=
  (∀ r : Regs,
    (r.arrAct ≤ r.cnt → r.tick = { r with cnt := 0, arrAct := r.arrPre, ccrAct := r.ccrPre }) ∧
    (r.cnt < r.arrAct → r.tick = { r with cnt := r.cnt + 1 } ∧ r.tick.cnt.toNat = r.cnt.toNat + 1)) ∧
  (∀ r : Regs, r.Inv → r.cnt ≤ r.arrAct) ∧
  (∀ r : Regs, r.arrAct = 0 → r.cnt = 0 → r.tick = r.updateEvent)

/-- R93: the update event copies the two preload registers and changes nothing else; in the states of R34 only CCR_ACT can
change. -/
def Obligations.UpdateEventLoadsTheActiveRegisters : Prop :=
  (∀ r : Regs, r.updateEvent = { r with arrAct := r.arrPre, ccrAct := r.ccrPre }) ∧
  (∀ r : Regs, r.Inv → r.updateEvent = { r with ccrAct := r.ccrPre })

/-- R94: the pin, and its form in the states of R34. -/
def Obligations.PinIsHighBelowTheActiveCompareValue : Prop :=
  (∀ r : Regs,
    (r.cce = false ∨ r.ccOut = false → r.pwmOut = false) ∧
    (r.cce = true → r.ccOut = true →
      (r.pwmOut = true ↔ (r.ccp = .activeHigh ↔ r.ocm = .pwm1 ∧ r.cnt.toNat < r.ccrAct.toNat)))) ∧
  (∀ r : Regs, r.Inv → (r.pwmOut = true ↔ r.cce = true ∧ r.cnt.toNat < r.ccrAct.toNat))

/-- A compare value above the auto-reload value keeps the output high for ever (R95, the spec's own derivation). -/
def Obligations.CompareAboveAutoReloadStaysHigh : Prop :=
  ∀ (n : Nat) (r : Regs), r.cce = true → r.ccOut = true → r.ocm = .pwm1 → r.ccp = .activeHigh →
    r.arrPre = r.arrAct → r.ccrPre = r.ccrAct → r.cnt ≤ r.arrAct → r.arrAct < r.ccrAct →
    (Regs.clkN n r).pwmOut = true

/-- One period in steady state (R96, the spec's own derivation): step by step over the `(a + 1) * (P + 1)` clocks from a
period's start, the counters, and the pin high for the first `c` ticks and low for the rest; then the next period's start
with CCR_PRE loaded. The CLK steps are those of an empty schedule: the host stays idle (assumption 1, the model's choice). -/
def Obligations.SteadyStateWaveform : Prop :=
  ∀ s : State, s.Launched → s.schedule = [] → s.regs.IsConfigured → s.regs.cen = true → s.regs.cnt = 0 →
    s.regs.pscCnt = 0 →
    (∀ n, n < (s.regs.arrAct.toNat + 1) * (s.regs.psc.toNat + 1) →
      ∃ t : State, core.run n s = .next t ∧
        t.regs = { s.regs with
          cnt := BitVec.ofNat 16 (n / (s.regs.psc.toNat + 1))
          pscCnt := BitVec.ofNat 16 (n % (s.regs.psc.toNat + 1)) } ∧
        (t.regs.pwmOut = true ↔ n / (s.regs.psc.toNat + 1) < s.regs.ccrAct.toNat)) ∧
    ∃ t : State, core.run ((s.regs.arrAct.toNat + 1) * (s.regs.psc.toNat + 1)) s = .next t ∧
      t.regs = { s.regs with ccrAct := s.regs.ccrPre }

/-- The duty ratio the caller gets (R96, the spec's own derivation). -/
def Obligations.DutyRatioIsNearTheRequest : Prop :=
  ∀ (p d : Word32) (a : Half), 1 ≤ p.toNat → p.toNat ≤ 65536 → a.toNat = p.toNat - 1 →
    normalizedDuty d - (normalizedDuty d + 1 / 2) / (p.toNat : Rat) ≤ ((mapDuty d a).toNat : Rat) / (p.toNat : Rat) ∧
    ((mapDuty d a).toNat : Rat) / (p.toNat : Rat) ≤ normalizedDuty d + (1 / 2 - normalizedDuty d) / (p.toNat : Rat)

/-- The PWM frequency is the tick rate over the period (R96, the spec's own derivation; the parameters are assumption 5). -/
def Obligations.PwmFrequencyIsTickRateOverPeriod : Prop :=
  ∀ p : Nat, 1 ≤ p → Config.pwmFrequency p = (Config.fTickHz : Rat) / (p : Rat)

/-- The boot sequence from reset, CONFIGURE then START, and the first period after it (R97, R103, R106, the spec's own
derivation): no pulse in the first `(a + 1) * (P + 1) - 1` clocks; the next clock is the first boundary and loads CCR_ACT;
the pin is then high for `CCR_ACT * (P + 1)` clocks. The CLK steps are those of the schedule once it is empty (assumption
1, the model's choice). -/
def Obligations.FirstPeriodAfterStartHasNoPulse : Prop :=
  ∀ (p d : Word32) (a : Half), 1 ≤ p.toNat → p.toNat ≤ 65536 → a.toNat = p.toNat - 1 →
    let s := { State.reset with schedule := [.issue (encode (.configure p d)), .issue (encode .start)] }
    let period := (a.toNat + 1) * (Config.pscFixed.toNat + 1)
    (∀ n, n < period → ∃ t : State, core.run (2 + n) s = .next t ∧ t.regs.ccrAct = 0 ∧ t.regs.pwmOut = false) ∧
    (∃ t : State, core.run (2 + period) s = .next t ∧
      t.regs = ⟨Config.pscFixed, a, a, mapDuty d a, mapDuty d a, .pwm1, true, .activeHigh, true, true, true, true, 0, 0⟩) ∧
    (∀ n, n < (mapDuty d a).toNat * (Config.pscFixed.toNat + 1) →
      ∃ t : State, core.run (2 + period + n) s = .next t ∧ t.regs.pwmOut = true)

/-! ### Invariants -/

/-- The invariant of R34 (the spec's own derivation) holds at reset (R33), whatever is scheduled. -/
def Obligations.LifecycleInvariantHoldsAtReset : Prop :=
  ∀ schedule : List Event, ({ State.reset with schedule := schedule } : State).regs.Inv

/-- Every step of either agent keeps the invariant of R34 (the spec's own derivation). -/
def Obligations.StepKeepsTheLifecycleInvariant : Prop :=
  ∀ s t : State, s.regs.Inv → step s = .next t → t.regs.Inv

/-- In the states of R34, CEN = 1 implies CCE = 1, and both compare bounds of R28 hold (the spec's own derivation). -/
def Obligations.LifecycleInvariantBoundsTheCompareValue : Prop :=
  ∀ r : Regs, r.Inv → r.CompareInBounds ∧ (r.cen = true → r.cce = true)

/-- R28: in every reachable state, under every interleaving, neither compare copy exceeds its auto-reload copy; and the
auto-reload register does not change while the block stays configured. -/
def Obligations.ReachableCompareNeverExceedsAutoReload : Prop :=
  ∀ s : State, s.Reachable → s.regs.ccrPre ≤ s.regs.arrPre ∧ s.regs.ccrAct ≤ s.regs.arrAct ∧
    ∀ t : State, step s = .next t → s.regs.cce = true → t.regs.cce = true →
      t.regs.arrPre = s.regs.arrPre ∧ t.regs.arrAct = s.regs.arrAct

/-! ### The step relation -/

/-- R32: the machine's step is the step relation, whose state is the registers alone and whose arguments are the launch
premises and the step of one agent. The response is the relation's result: no earlier response, and nothing later in the
schedule, has any effect. (That a configuration holds the arguments is the model's choice, assumptions 1, 2, 3 and 15.) -/
def Obligations.StepIsTheStepRelation : Prop :=
  ∀ s : State,
    (∀ why, stepRegs s.premises s.nextEvent s.regs = .refused why → step s = .refused why) ∧
    (∀ r o, stepRegs s.premises s.nextEvent s.regs = .next (r, o) →
      step s = .next { regs := r, rsp := o, schedule := s.schedule.tail, premises := s.premises }) ∧
    (∀ t, step s = .next t → stepRegs s.premises s.nextEvent s.regs = .next (t.regs, t.rsp))
end

