-- ==== Sys2Proof/Laws/Decode.lean ====
section
/-! SUPPORT. The fields of a packed command word, and what the decoder does with each opcode. -/

namespace Sys2Proof

theorem getLsbD_packCommand (op : Byte) (p d : Word32) (i : Nat) :
    (packCommand op p d).getLsbD i =
      if i < 32 then d.getLsbD i else if i < 64 then p.getLsbD (i - 32) else op.getLsbD (i - 64) := by
  have h : (packCommand op p d).getLsbD i = ((op ++ p) ++ d).getLsbD i := rfl
  rw [h, BitVec.getLsbD_append, BitVec.getLsbD_append]
  by_cases h1 : i < 32
  · simp [h1]
  · by_cases h2 : i < 64
    · simp [h1, h2, show i - 32 < 32 by omega]
    · simp [h1, h2, show ¬ i - 32 < 32 by omega, show i - 32 - 32 = i - 64 by omega]

@[simp] theorem opField_packCommand (op : Byte) (p d : Word32) : opField (packCommand op p d) = op := by
  unfold opField
  ext i hi
  rw [BitVec.getElem_extractLsb', getLsbD_packCommand]
  simp [show ¬ 64 + i < 32 by omega, hi]

@[simp] theorem periodField_packCommand (op : Byte) (p d : Word32) : periodField (packCommand op p d) = p := by
  unfold periodField
  ext i hi
  rw [BitVec.getElem_extractLsb', getLsbD_packCommand]
  simp [show 32 + i < 64 by omega, hi]

@[simp] theorem dutyField_packCommand (op : Byte) (p d : Word32) : dutyField (packCommand op p d) = d := by
  unfold dutyField
  ext i hi
  rw [BitVec.getElem_extractLsb', getLsbD_packCommand]
  simp [hi]

/-- What the decoder answers, opcode by opcode. -/
theorem decode_cases (w : CmdWord) :
    (opField w = 0x01#8 ∧ decode w = .ok (.configure (periodField w) (dutyField w))) ∨
    (opField w = 0x02#8 ∧ decode w = .ok (.setDuty (dutyField w))) ∨
    (opField w = 0x03#8 ∧ decode w = .ok .start) ∨
    (opField w ≠ 0x01#8 ∧ opField w ≠ 0x02#8 ∧ opField w ≠ 0x03#8 ∧
      decode w = .error (.reservedOpcode (opField w))) := by
  unfold decode
  split
  · exact .inl ⟨‹_›, rfl⟩
  · split
    · exact .inr (.inl ⟨‹_›, rfl⟩)
    · split
      · exact .inr (.inr (.inl ⟨‹_›, rfl⟩))
      · exact .inr (.inr (.inr ⟨‹_›, ‹_›, ‹_›, rfl⟩))

end Sys2Proof
end

