-- ==== Sys2Proof/Laws/Operands.lean ====
section
/-! SUPPORT. The range of the clamped percentage, and MAP as a number: the 16-bit result never overflows. -/

namespace Sys2Proof.Machine

theorem f32Frac_lt (d : Word32) : f32Frac d < 2 ^ 23 := (d.extractLsb' 0 23).isLt

theorem f32Exp_lt (d : Word32) : f32Exp d < 2 ^ 8 := (d.extractLsb' 23 8).isLt

theorem f32Frac_eq (d : Word32) : f32Frac d = d.toNat % 2 ^ 23 := by simp [f32Frac]

theorem f32Exp_eq (d : Word32) : f32Exp d = d.toNat / 2 ^ 23 % 2 ^ 8 := by
  simp [f32Exp, Nat.shiftRight_eq_div_pow]

/-- The clamped percentage is in 10485760..20971520 (R73). -/
theorem clampedPercent_range (d : Word32) :
    10485760 ≤ clampedPercent d ∧ clampedPercent d ≤ 20971520 := by
  have hf := f32Frac_eq d
  unfold clampedPercent
  repeat' split
  all_goals omega

/-- MAP as a number: the division's result fits 16 bits. -/
theorem mapDuty_toNat (d : Word32) (a : Half) :
    (mapDuty d a).toNat = (clampedPercent d * a.toNat + 52428800) / 104857600 := by
  have hM := (clampedPercent_range d).2
  have ha := a.isLt
  have hprod : clampedPercent d * a.toNat ≤ 20971520 * 65535 := Nat.mul_le_mul hM (by omega)
  unfold mapDuty
  rw [BitVec.toNat_ofNat]
  omega

/-- The auto-reload value of a period in 1..65536 is one less than it (R67 step 4). -/
theorem autoReloadOf_toNat {p : Word32} (hp : p.toNat ≤ 65536) : (autoReloadOf p).toNat = p.toNat - 1 := by
  unfold autoReloadOf
  rw [BitVec.toNat_ofNat]
  omega

end Sys2Proof.Machine
end

