-- ==== Sys2Proof/Laws/PerInstr.lean ====
section
/-! SUPPORT. Statements made per instruction: every command's word carries the command's opcode in its top byte, an
opcode that is not reserved (spec/30_encoding.md R51, R52). -/

namespace Sys2Proof.Laws.OpcodeByte

/-- The command's word has its opcode in `cmd[71:64]`, and no reserved opcode. -/
def Statement (i : Instr) : Prop :=
  opField (encode i) = i.opcode ∧ 0x01#8 ≤ i.opcode ∧ i.opcode ≤ 0x03#8

theorem configure (p d : Word32) : Statement (.configure p d) := by
  simp [Statement, encode, Instr.opcode]

theorem setDuty (d : Word32) : Statement (.setDuty d) := by
  simp [Statement, encode, Instr.opcode]

theorem start : Statement .start := by
  simp [Statement, encode, Instr.opcode]

end Sys2Proof.Laws.OpcodeByte
end

