-- ==== Sys2Proof/Laws/State.lean ====
section
/-! SUPPORT. One lemma per field per update of the registers and of the state. -/

namespace Sys2Proof.Machine

/-! ### Writing the auto-reload register -/

@[simp] theorem Regs.writeArr_arrPre (r : Regs) (v : Half) : (r.writeArr v).arrPre = v := by
  unfold Regs.writeArr; split <;> rfl
@[simp] theorem Regs.writeArr_arrAct (r : Regs) (v : Half) :
    (r.writeArr v).arrAct = if r.arpe then r.arrAct else v := by
  unfold Regs.writeArr; split <;> simp_all
@[simp] theorem Regs.writeArr_psc (r : Regs) (v : Half) : (r.writeArr v).psc = r.psc := by
  unfold Regs.writeArr; split <;> rfl
@[simp] theorem Regs.writeArr_ccrPre (r : Regs) (v : Half) : (r.writeArr v).ccrPre = r.ccrPre := by
  unfold Regs.writeArr; split <;> rfl
@[simp] theorem Regs.writeArr_ccrAct (r : Regs) (v : Half) : (r.writeArr v).ccrAct = r.ccrAct := by
  unfold Regs.writeArr; split <;> rfl
@[simp] theorem Regs.writeArr_ocm (r : Regs) (v : Half) : (r.writeArr v).ocm = r.ocm := by
  unfold Regs.writeArr; split <;> rfl
@[simp] theorem Regs.writeArr_ccOut (r : Regs) (v : Half) : (r.writeArr v).ccOut = r.ccOut := by
  unfold Regs.writeArr; split <;> rfl
@[simp] theorem Regs.writeArr_ccp (r : Regs) (v : Half) : (r.writeArr v).ccp = r.ccp := by
  unfold Regs.writeArr; split <;> rfl
@[simp] theorem Regs.writeArr_ocpe (r : Regs) (v : Half) : (r.writeArr v).ocpe = r.ocpe := by
  unfold Regs.writeArr; split <;> rfl
@[simp] theorem Regs.writeArr_arpe (r : Regs) (v : Half) : (r.writeArr v).arpe = r.arpe := by
  unfold Regs.writeArr; split <;> rfl
@[simp] theorem Regs.writeArr_cce (r : Regs) (v : Half) : (r.writeArr v).cce = r.cce := by
  unfold Regs.writeArr; split <;> rfl
@[simp] theorem Regs.writeArr_cen (r : Regs) (v : Half) : (r.writeArr v).cen = r.cen := by
  unfold Regs.writeArr; split <;> rfl
@[simp] theorem Regs.writeArr_cnt (r : Regs) (v : Half) : (r.writeArr v).cnt = r.cnt := by
  unfold Regs.writeArr; split <;> rfl
@[simp] theorem Regs.writeArr_pscCnt (r : Regs) (v : Half) : (r.writeArr v).pscCnt = r.pscCnt := by
  unfold Regs.writeArr; split <;> rfl

/-! ### Writing the compare register -/

@[simp] theorem Regs.writeCcr_ccrPre (r : Regs) (v : Half) : (r.writeCcr v).ccrPre = v := by
  unfold Regs.writeCcr; split <;> rfl
@[simp] theorem Regs.writeCcr_ccrAct (r : Regs) (v : Half) :
    (r.writeCcr v).ccrAct = if r.ocpe then r.ccrAct else v := by
  unfold Regs.writeCcr; split <;> simp_all
@[simp] theorem Regs.writeCcr_psc (r : Regs) (v : Half) : (r.writeCcr v).psc = r.psc := by
  unfold Regs.writeCcr; split <;> rfl
@[simp] theorem Regs.writeCcr_arrPre (r : Regs) (v : Half) : (r.writeCcr v).arrPre = r.arrPre := by
  unfold Regs.writeCcr; split <;> rfl
@[simp] theorem Regs.writeCcr_arrAct (r : Regs) (v : Half) : (r.writeCcr v).arrAct = r.arrAct := by
  unfold Regs.writeCcr; split <;> rfl
@[simp] theorem Regs.writeCcr_ocm (r : Regs) (v : Half) : (r.writeCcr v).ocm = r.ocm := by
  unfold Regs.writeCcr; split <;> rfl
@[simp] theorem Regs.writeCcr_ccOut (r : Regs) (v : Half) : (r.writeCcr v).ccOut = r.ccOut := by
  unfold Regs.writeCcr; split <;> rfl
@[simp] theorem Regs.writeCcr_ccp (r : Regs) (v : Half) : (r.writeCcr v).ccp = r.ccp := by
  unfold Regs.writeCcr; split <;> rfl
@[simp] theorem Regs.writeCcr_ocpe (r : Regs) (v : Half) : (r.writeCcr v).ocpe = r.ocpe := by
  unfold Regs.writeCcr; split <;> rfl
@[simp] theorem Regs.writeCcr_arpe (r : Regs) (v : Half) : (r.writeCcr v).arpe = r.arpe := by
  unfold Regs.writeCcr; split <;> rfl
@[simp] theorem Regs.writeCcr_cce (r : Regs) (v : Half) : (r.writeCcr v).cce = r.cce := by
  unfold Regs.writeCcr; split <;> rfl
@[simp] theorem Regs.writeCcr_cen (r : Regs) (v : Half) : (r.writeCcr v).cen = r.cen := by
  unfold Regs.writeCcr; split <;> rfl
@[simp] theorem Regs.writeCcr_cnt (r : Regs) (v : Half) : (r.writeCcr v).cnt = r.cnt := by
  unfold Regs.writeCcr; split <;> rfl
@[simp] theorem Regs.writeCcr_pscCnt (r : Regs) (v : Half) : (r.writeCcr v).pscCnt = r.pscCnt := by
  unfold Regs.writeCcr; split <;> rfl

/-! ### Loading the active registers -/

@[simp] theorem Regs.forceUpdate_eq (r : Regs) : r.forceUpdate = r.loadActive := rfl
@[simp] theorem Regs.updateEvent_eq (r : Regs) : r.updateEvent = r.loadActive := rfl
@[simp] theorem Regs.loadActive_arrAct (r : Regs) : r.loadActive.arrAct = r.arrPre := rfl
@[simp] theorem Regs.loadActive_ccrAct (r : Regs) : r.loadActive.ccrAct = r.ccrPre := rfl
@[simp] theorem Regs.loadActive_psc (r : Regs) : (r.loadActive).psc = r.psc := rfl
@[simp] theorem Regs.loadActive_arrPre (r : Regs) : (r.loadActive).arrPre = r.arrPre := rfl
@[simp] theorem Regs.loadActive_ccrPre (r : Regs) : (r.loadActive).ccrPre = r.ccrPre := rfl
@[simp] theorem Regs.loadActive_ocm (r : Regs) : (r.loadActive).ocm = r.ocm := rfl
@[simp] theorem Regs.loadActive_ccOut (r : Regs) : (r.loadActive).ccOut = r.ccOut := rfl
@[simp] theorem Regs.loadActive_ccp (r : Regs) : (r.loadActive).ccp = r.ccp := rfl
@[simp] theorem Regs.loadActive_ocpe (r : Regs) : (r.loadActive).ocpe = r.ocpe := rfl
@[simp] theorem Regs.loadActive_arpe (r : Regs) : (r.loadActive).arpe = r.arpe := rfl
@[simp] theorem Regs.loadActive_cce (r : Regs) : (r.loadActive).cce = r.cce := rfl
@[simp] theorem Regs.loadActive_cen (r : Regs) : (r.loadActive).cen = r.cen := rfl
@[simp] theorem Regs.loadActive_cnt (r : Regs) : (r.loadActive).cnt = r.cnt := rfl
@[simp] theorem Regs.loadActive_pscCnt (r : Regs) : (r.loadActive).pscCnt = r.pscCnt := rfl

/-! ### The timer agent: what TICK and CLK leave alone -/

@[simp] theorem Regs.tick_psc (r : Regs) : (r.tick).psc = r.psc := by
  unfold Regs.tick; split <;> rfl
@[simp] theorem Regs.tick_arrPre (r : Regs) : (r.tick).arrPre = r.arrPre := by
  unfold Regs.tick; split <;> rfl
@[simp] theorem Regs.tick_ccrPre (r : Regs) : (r.tick).ccrPre = r.ccrPre := by
  unfold Regs.tick; split <;> rfl
@[simp] theorem Regs.tick_ocm (r : Regs) : (r.tick).ocm = r.ocm := by
  unfold Regs.tick; split <;> rfl
@[simp] theorem Regs.tick_ccOut (r : Regs) : (r.tick).ccOut = r.ccOut := by
  unfold Regs.tick; split <;> rfl
@[simp] theorem Regs.tick_ccp (r : Regs) : (r.tick).ccp = r.ccp := by
  unfold Regs.tick; split <;> rfl
@[simp] theorem Regs.tick_ocpe (r : Regs) : (r.tick).ocpe = r.ocpe := by
  unfold Regs.tick; split <;> rfl
@[simp] theorem Regs.tick_arpe (r : Regs) : (r.tick).arpe = r.arpe := by
  unfold Regs.tick; split <;> rfl
@[simp] theorem Regs.tick_cce (r : Regs) : (r.tick).cce = r.cce := by
  unfold Regs.tick; split <;> rfl
@[simp] theorem Regs.tick_cen (r : Regs) : (r.tick).cen = r.cen := by
  unfold Regs.tick; split <;> rfl
@[simp] theorem Regs.tick_pscCnt (r : Regs) : (r.tick).pscCnt = r.pscCnt := by
  unfold Regs.tick; split <;> rfl
@[simp] theorem Regs.clk_psc (r : Regs) : r.clk.psc = r.psc := by
  unfold Regs.clk; split <;> (try split) <;> simp
@[simp] theorem Regs.clk_arrPre (r : Regs) : r.clk.arrPre = r.arrPre := by
  unfold Regs.clk; split <;> (try split) <;> simp
@[simp] theorem Regs.clk_ccrPre (r : Regs) : r.clk.ccrPre = r.ccrPre := by
  unfold Regs.clk; split <;> (try split) <;> simp
@[simp] theorem Regs.clk_ocm (r : Regs) : r.clk.ocm = r.ocm := by
  unfold Regs.clk; split <;> (try split) <;> simp
@[simp] theorem Regs.clk_ccOut (r : Regs) : r.clk.ccOut = r.ccOut := by
  unfold Regs.clk; split <;> (try split) <;> simp
@[simp] theorem Regs.clk_ccp (r : Regs) : r.clk.ccp = r.ccp := by
  unfold Regs.clk; split <;> (try split) <;> simp
@[simp] theorem Regs.clk_ocpe (r : Regs) : r.clk.ocpe = r.ocpe := by
  unfold Regs.clk; split <;> (try split) <;> simp
@[simp] theorem Regs.clk_arpe (r : Regs) : r.clk.arpe = r.arpe := by
  unfold Regs.clk; split <;> (try split) <;> simp
@[simp] theorem Regs.clk_cce (r : Regs) : r.clk.cce = r.cce := by
  unfold Regs.clk; split <;> (try split) <;> simp
@[simp] theorem Regs.clk_cen (r : Regs) : r.clk.cen = r.cen := by
  unfold Regs.clk; split <;> (try split) <;> simp

/-! ### The state's own fields -/

@[simp] theorem State.answer_regs (s : State) (a : Answer) : (s.answer a).regs = a.1 := rfl
@[simp] theorem State.answer_rsp (s : State) (a : Answer) : (s.answer a).rsp = some a.2 := rfl
@[simp] theorem State.answer_schedule (s : State) (a : Answer) : (s.answer a).schedule = s.schedule := rfl
@[simp] theorem State.answer_premises (s : State) (a : Answer) : (s.answer a).premises = s.premises := rfl
@[simp] theorem State.quiet_regs (s : State) (r : Regs) : (s.quiet r).regs = r := rfl
@[simp] theorem State.quiet_rsp (s : State) (r : Regs) : (s.quiet r).rsp = none := rfl
@[simp] theorem State.quiet_schedule (s : State) (r : Regs) : (s.quiet r).schedule = s.schedule := rfl
@[simp] theorem State.quiet_premises (s : State) (r : Regs) : (s.quiet r).premises = s.premises := rfl
@[simp] theorem State.advance_regs (s : State) : (s.advance).regs = s.regs := rfl
@[simp] theorem State.advance_rsp (s : State) : (s.advance).rsp = s.rsp := rfl
@[simp] theorem State.advance_schedule (s : State) : (s.advance).schedule = s.schedule.tail := rfl
@[simp] theorem State.advance_premises (s : State) : (s.advance).premises = s.premises := rfl
@[simp] theorem State.withCommand_regs (s : State) (w : CmdWord) : (s.withCommand w).regs = s.regs := rfl
@[simp] theorem State.withCommand_rsp (s : State) (w : CmdWord) : (s.withCommand w).rsp = s.rsp := rfl
@[simp] theorem State.withCommand_schedule (s : State) (w : CmdWord) : (s.withCommand w).schedule = .issue w :: s.schedule := rfl
@[simp] theorem State.withCommand_premises (s : State) (w : CmdWord) : (s.withCommand w).premises = .established := rfl

/-! ### Answers -/

@[simp] theorem Regs.complete_eq (r : Regs) (v : Half) : r.complete v = (r, ⟨.ok, v⟩) := rfl
@[simp] theorem Regs.raiseError_eq (r : Regs) (st : Status) : r.raiseError st = (r, ⟨st, 0⟩) := rfl
@[simp] theorem Regs.raiseConfigError_eq (r : Regs) : r.raiseConfigError = (r, ⟨.configError, 0⟩) := rfl
@[simp] theorem Regs.raiseIllegalCmd_eq (r : Regs) : r.raiseIllegalCmd = (r, ⟨.illegalCmd, 0⟩) := rfl
@[simp] theorem Regs.resetStep_eq (r : Regs) (ws : List CmdWord) : r.resetStep ws = Regs.reset := rfl

end Sys2Proof.Machine
end

