-- ==== Sys2Proof/Laws/Step.lean ====
section
/-! SUPPORT. What each command and a step can do, said once. -/

namespace Sys2Proof.Machine

theorem Premises.broken_eq_none (p : Premises) : p.broken = none ↔ p.clockEnabled = true ∧ p.pinRouted = true := by
  unfold Premises.broken
  cases p.clockEnabled <;> cases p.pinRouted <;> simp

theorem State.Launched.not_broken {s : State} (h : s.Launched) : s.premises.broken = none :=
  s.premises.broken_eq_none.mpr h

theorem State.launched_withCommand (s : State) (w : CmdWord) : (s.withCommand w).Launched := ⟨rfl, rfl⟩

/-- What CONFIGURE can do: an error response, or the ten steps. -/
theorem Regs.configure_cases (p d : Word32) (r : Regs) :
    ((r.cce = true ∨ p.toNat = 0 ∨ 65536 < p.toNat) ∧ r.configure p d = (r, ⟨.configError, 0⟩)) ∨
    (r.cce = false ∧ 1 ≤ p.toNat ∧ p.toNat ≤ 65536 ∧
      r.configure p d = ((configureSteps p d r).1, ⟨.ok, (configureSteps p d r).2⟩)) := by
  unfold Regs.configure Regs.configured
  split
  · exact .inl ⟨.inl ‹_›, rfl⟩
  · split
    · exact .inl ⟨.inr (.inl ‹_›), rfl⟩
    · split
      · exact .inl ⟨.inr (.inr ‹_›), rfl⟩
      · exact .inr ⟨by simpa using ‹¬ r.cce = true›, by omega, by omega, rfl⟩

/-- What SET_DUTY can do. -/
theorem Regs.setDuty_cases (d : Word32) (r : Regs) :
    (r.cce = false ∧ r.setDuty d = (r, ⟨.configError, 0⟩)) ∨
    (r.cce = true ∧ r.setDuty d = (r.writeCcr (mapDuty d r.arrPre), ⟨.ok, mapDuty d r.arrPre⟩)) := by
  unfold Regs.setDuty Regs.configured
  cases r.cce <;> simp

/-- What START can do. -/
theorem Regs.start_cases (r : Regs) :
    (r.cce = false ∧ r.start = (r, ⟨.configError, 0⟩)) ∨
    (r.cce = true ∧ r.start = ({ r with cen := true }, ⟨.ok, 0⟩)) := by
  unfold Regs.start Regs.configured
  cases r.cce <;> simp

/-- Every command answers a next state, that of its effect on the registers. -/
theorem exec_eq (i : Instr) (s : State) : exec i s = .next (s.answer (commandEffect i s.regs)) := by
  cases i <;> rfl

/-- What one step can do. -/
theorem step_cases {s t : State} (h : step s = .next t) :
    s.Launched ∧
    ((∃ w i, s.nextEvent = .issue w ∧ decode w = .ok i ∧ t = s.advance.answer (commandEffect i s.regs)) ∨
     (∃ w e, s.nextEvent = .issue w ∧ decode w = .error e ∧ t = s.advance.answer (s.regs, ⟨.illegalCmd, 0⟩)) ∨
     (s.nextEvent = .clk ∧ t = s.advance.quiet s.regs.clk) ∨
     (∃ ws, s.nextEvent = .reset ws ∧ t = s.advance.quiet Regs.reset)) := by
  unfold step at h
  cases hb : s.premises.broken with
  | some why => simp [hb] at h
  | none =>
    refine ⟨s.premises.broken_eq_none.mp hb, ?_⟩
    cases he : s.nextEvent with
    | issue w =>
      cases hd : decode w with
      | ok i =>
        simp only [hb, he, hd, exec_eq, State.advance_regs, Host.Outcome.next.injEq] at h
        exact .inl ⟨w, i, rfl, hd, h.symm⟩
      | error e =>
        simp only [hb, he, hd, Regs.raiseIllegalCmd_eq, Host.Outcome.next.injEq] at h
        exact .inr (.inl ⟨w, e, rfl, hd, h.symm⟩)
    | clk =>
      simp only [hb, he, Host.Outcome.next.injEq] at h
      exact .inr (.inr (.inl ⟨rfl, h.symm⟩))
    | reset ws =>
      simp only [hb, he, Regs.resetStep_eq, Host.Outcome.next.injEq] at h
      exact .inr (.inr (.inr ⟨ws, rfl, h.symm⟩))

end Sys2Proof.Machine
end

