-- ==== Sys2Proof/Laws/Timer.lean ====
section
/-! SUPPORT. The timer agent's steps, said once: what CLK and TICK do by cases, how their iteration composes, and what a run
of the machine is when the host has nothing scheduled. -/

namespace Sys2Proof.Machine

theorem Regs.clk_stopped {r : Regs} (h : r.cen = false) : r.clk = r := by simp [Regs.clk, h]

theorem Regs.clk_running {r : Regs} (h : r.cen = true) :
    (r.psc ≤ r.pscCnt ∧ r.clk = { r with pscCnt := 0 }.tick) ∨
    (r.pscCnt < r.psc ∧ r.clk = { r with pscCnt := r.pscCnt + 1 }) := by
  unfold Regs.clk
  by_cases hp : r.psc ≤ r.pscCnt
  · exact .inl ⟨hp, by simp [h, hp]⟩
  · exact .inr ⟨BitVec.not_le.mp hp, by simp [h, hp]⟩

theorem Regs.tick_cases (r : Regs) :
    (r.arrAct ≤ r.cnt ∧ r.tick = { r with cnt := 0, arrAct := r.arrPre, ccrAct := r.ccrPre }) ∨
    (r.cnt < r.arrAct ∧ r.tick = { r with cnt := r.cnt + 1 }) := by
  unfold Regs.tick
  by_cases hc : r.arrAct ≤ r.cnt
  · exact .inl ⟨hc, by simp [hc, Regs.loadActive]⟩
  · exact .inr ⟨BitVec.not_le.mp hc, by simp [hc]⟩

@[simp] theorem Regs.clkN_zero (r : Regs) : Regs.clkN 0 r = r := rfl

theorem Regs.clkN_succ (n : Nat) (r : Regs) : Regs.clkN (n + 1) r = Regs.clkN n r.clk := rfl

theorem Regs.clkN_add (m n : Nat) (r : Regs) : Regs.clkN (m + n) r = Regs.clkN n (Regs.clkN m r) := by
  induction m generalizing r with
  | zero => rw [Nat.zero_add, Regs.clkN_zero]
  | succ m ih => rw [Nat.succ_add, Regs.clkN_succ, Regs.clkN_succ, ih]

theorem Regs.clkN_succ_last (n : Nat) (r : Regs) : Regs.clkN (n + 1) r = (Regs.clkN n r).clk := by
  rw [Regs.clkN_add]; rfl

/-- With nothing scheduled, `n` steps of the machine are `n` steps of the timer agent. -/
theorem run_idle (n : Nat) {s : State} (hl : s.Launched) (hs : s.schedule = []) :
    ∃ t : State, core.run n s = .next t ∧ t.regs = Regs.clkN n s.regs ∧ t.Launched ∧ t.schedule = [] := by
  induction n generalizing s with
  | zero => exact ⟨s, rfl, rfl, hl, hs⟩
  | succ n ih =>
    have hstep : step s = .next (s.advance.quiet s.regs.clk) := by
      unfold step
      rw [hl.not_broken]
      simp [State.nextEvent, hs]
    obtain ⟨t, ht, hr⟩ := ih (s := s.advance.quiet s.regs.clk) hl (by simp [hs])
    refine ⟨t, ?_, by simpa [Regs.clkN_succ] using hr⟩
    have hrun : core.run (n + 1) s = core.run n (s.advance.quiet s.regs.clk) := by
      simp only [Host.Core.run]
      rw [show core.step s = .next (s.advance.quiet s.regs.clk) from hstep]
    rw [hrun, ht]

end Sys2Proof.Machine
end

