-- ==== Sys2Proof/Tests/Slice0.lean ====
section
/-! SUPPORT. The model's own tests. Expected results are the vectors of spec/95_test_vectors.md, cited by name, or are
worked by hand from the rule cited. The `witness_` theorems show that the hypotheses of a statement can be met. -/

namespace Sys2Proof.Tests

open Sys2Proof Sys2Proof.Machine

/-! ### Helpers -/

/-- The configured registers with a given prescaler: auto-reload `a`, compare values `pre` and `act`, stopped or running. -/
def block (psc a pre act : Half) (cen : Bool) (cnt pscCnt : Half) : Regs :=
  ⟨psc, a, a, pre, act, .pwm1, true, .activeHigh, true, true, true, cen, cnt, pscCnt⟩

/-- A state with its launch premises and the steps that come next. -/
def about (r : Regs) (next : List Event) : State := ⟨r, none, next, .established⟩

/-- The configured block, running from the start of a period: auto-reload 9 and MAP(20.0, 9) = 2 in both compare copies. -/
def running : Regs := block Config.pscFixed 9 2 2 true 0 0

/-- The same at the last clock of a period, with MAP(10.0, 9) = 1 pending. -/
def atBoundary : Regs := block Config.pscFixed 9 1 2 true 9 Config.pscFixed

/-- The next state of a step, if there is one. -/
def nextOf : StepResult → Option State
  | .next t => some t
  | _ => none

/-- The response word of a step, if there is one. -/
def responseOf (o : StepResult) : Option RspWord := ((nextOf o).bind (·.rsp)).map Response.word

/-! ### Well-formedness: an ill-formed term for each check -/

theorem test_short_command_refused : wholeCommand [0x00, 0x00, 0x00] = false := by decide
theorem test_long_command_refused : decodeBytes (List.replicate 10 0x01) = .error (.notNineBytes 10) := by decide
theorem test_zero_tick_rate_refused : Config.buildPsc 16 0 = none := by decide
theorem test_inexact_divider_refused : Config.buildPsc 17 2 = none := by decide
theorem test_too_large_divider_refused : Config.buildPsc 65537 1 = none := by decide
theorem test_zero_clock_refused : Config.buildPsc 0 5 = none := by decide
theorem test_largest_divider_builds : Config.buildPsc 65536 1 = some 0xFFFF := by decide
theorem test_period_literal_refused : (Line.configure 4294967296 .nan).wellFormed = false := by decide

/-! ### Decoding: words of 95_test_vectors.md 2.1 -/

theorem test_decode_configure : decode 0x0100004E2041700000 = .ok (.configure 20000 0x41700000) := by decide
theorem test_decode_setDuty : decode 0x02DEADBEEFC2480000 = .ok (.setDuty 0xC2480000) := by decide
theorem test_decode_start : decode 0x03FFFFFFFFFFFFFFFF = .ok .start := by decide
theorem test_decode_zero : decode 0x000000000000000000 = .error (.reservedOpcode 0x00) := by decide
theorem test_decode_four : decode 0x040000000000000000 = .error (.reservedOpcode 0x04) := by decide
theorem test_decode_ones : decode 0xFFFFFFFFFFFFFFFFFF = .error (.reservedOpcode 0xFF) := by decide
theorem test_decode_bytes :
    decodeBytes [0x00, 0x00, 0x70, 0x41, 0x20, 0x4E, 0x00, 0x00, 0x01] = .ok (.configure 20000 0x41700000) := by decide
theorem test_encode_configure : encode (.configure 20000 0x41700000) = 0x0100004E2041700000 := by decide
theorem test_encode_setDuty : encode (.setDuty 0xC2480000) = 0x0200000000C2480000 := by decide
theorem test_encode_start : encode .start = 0x030000000000000000 := by decide
theorem test_table_word : decodeTableWord 72 0x0200000000C2480000 = some (.setDuty 0xC2480000) := by decide
theorem test_table_word_reserved : decodeTableWord 72 0x04 = none := by decide
theorem test_fetch_runs_first :
    step (State.reset.withFetchWord 72 0x030000000000000000) = exec .start { State.reset with schedule := [] } := rfl

/-! ### f32val and MAP: 2.2 and 2.3 -/

theorem test_f32val_quarter : f32val 0x41480000 = some (.fin (25 / 2)) := by
  simp [f32val, f32Exp, f32Frac, f32Sign, applySign]; norm_num
theorem test_f32val_negative : f32val 0xC2480000 = some (.fin (-50)) := by
  simp [f32val, f32Exp, f32Frac, f32Sign, applySign]; norm_num
theorem test_f32val_smallest : f32val 0x00000001 = some (.fin (1 / 2 ^ 149)) := by
  simp [f32val, f32Exp, f32Frac, f32Sign, applySign]
theorem test_f32val_inf : f32val 0xFF800000 = some .negInf := by decide
theorem test_f32val_nan : f32val 0x7F800001 = none := by decide
theorem test_percent_edges :
    clampedPercent 0x411FFFFF = 10485760 ∧ clampedPercent 0x41200001 = 10485761 ∧
    clampedPercent 0x417FFFFF = 16777215 ∧ clampedPercent 0x41800000 = 16777216 ∧
    clampedPercent 0x41800001 = 16777218 ∧ clampedPercent 0x419FFFFF = 20971518 ∧
    clampedPercent 0x41A00001 = 20971520 := by decide
theorem test_percent_specials :
    clampedPercent 0x80000000 = 10485760 ∧ clampedPercent 0x7F800000 = 20971520 ∧
    clampedPercent 0xFF800000 = 10485760 ∧ clampedPercent 0x7FFFFFFF = 10485760 ∧
    clampedPercent 0xFFC00000 = 10485760 ∧ clampedPercent 0x7F7FFFFF = 20971520 := by decide
theorem test_map_ties :
    mapDuty 0x41700000 10 = 2 ∧ mapDuty 0x41480000 100 = 13 ∧ mapDuty 0x41200000 5 = 1 ∧
    mapDuty 0x41200000 65535 = 6554 ∧ mapDuty 0x41300000 50 = 6 := by decide
theorem test_map_edges :
    mapDuty 0x41A00000 2 = 0 ∧ mapDuty 0x41A00000 3 = 1 ∧ mapDuty 0x41A00000 65535 = 13107 ∧
    mapDuty 0x41700000 65535 = 9830 ∧ mapDuty 0x41480000 19999 = 2500 := by decide

/-! ### The commands: 2.4 to 2.6, 2.8 -/

theorem test_configure_V_C1 :
    nextOf (step (about Regs.reset [.issue 0x0100004E2041700000])) =
      some ⟨block Config.pscFixed 19999 3000 0 false 0 0, some ⟨.ok, 3000⟩, [], .established⟩ := rfl
theorem test_configure_refused_V_C4_C5 :
    responseOf (step (about Regs.reset [.issue 0x010000000041700000])) = some 0x10000 ∧
    responseOf (step (about Regs.reset [.issue 0x010001000141700000])) = some 0x10000 ∧
    responseOf (step (about (block 15 19999 3000 0 false 0 0) [.issue 0x010000006441A00000])) = some 0x10000 := by
  decide
theorem test_configure_largest_V_C3 :
    responseOf (step (about Regs.reset [.issue 0x010001000041A00000])) = some 0x03333 := by decide
theorem test_setDuty_V_S1 :
    nextOf (step (about (block 15 19999 3000 0 false 0 0) [.issue 0x0200000000C2480000])) =
      some ⟨block 15 19999 2000 0 false 0 0, some ⟨.ok, 2000⟩, [], .established⟩ := by decide
theorem test_setDuty_unconfigured_V_S7 :
    nextOf (step (about Regs.reset [.issue 0x020000000041700000])) =
      some ⟨Regs.reset, some ⟨.configError, 0⟩, [], .established⟩ := by decide
theorem test_start_V_T2 :
    nextOf (step (about (block 15 19999 3000 0 false 0 0) [.issue 0x030000000000000000])) =
      some ⟨block 15 19999 3000 0 true 0 0, some ⟨.ok, 0⟩, [], .established⟩ := by decide
theorem test_start_unconfigured_V_T1 :
    responseOf (step (about Regs.reset [.issue 0x030000000000000000])) = some 0x10000 := by decide
theorem test_illegal_V_E3 :
    nextOf (step (about (block 15 19999 3000 0 false 0 0) [.issue 0x040000000000000000])) =
      some ⟨block 15 19999 3000 0 false 0 0, some ⟨.illegalCmd, 0⟩, [], .established⟩ := by decide
theorem test_response_word : (Response.mk .configError 0).word = 0x10000 ∧ (Response.mk .ok 3000).word = 0x00BB8 ∧
    (Response.mk .illegalCmd 0).bytes = [0x00, 0x00, 0x02] := by decide

/-! ### The timer agent and the pin: 2.7 -/

theorem test_clk_stopped : (block 15 19999 3000 0 false 0 0).clk = block 15 19999 3000 0 false 0 0 := by decide
theorem test_clk_counts : (block 15 19999 3000 0 true 0 14).clk = block 15 19999 3000 0 true 0 15 := by decide
theorem test_clk_ticks : (block 15 19999 3000 0 true 0 15).clk = block 15 19999 3000 0 true 1 0 := by decide
theorem test_clk_boundary :
    (block 15 19999 3000 0 true 19999 15).clk = block 15 19999 3000 3000 true 0 0 := by decide
theorem test_pin_edges :
    (block 0 9 2 2 true 1 0).pwmOut = true ∧ (block 0 9 2 2 true 2 0).pwmOut = false ∧
    Regs.reset.pwmOut = false ∧ { block 0 9 2 2 true 2 0 with ccp := .activeLow }.pwmOut = true := by decide
theorem test_write_arr_arpe :
    (Regs.reset.writeArr 7).arrAct = 7 ∧ ({ Regs.reset with arpe := true }.writeArr 7).arrAct = 0 := by decide
theorem test_write_ccr_ocpe :
    (Regs.reset.writeCcr 7).ccrAct = 7 ∧ ({ Regs.reset with ocpe := true }.writeCcr 7).ccrAct = 0 := by decide
theorem test_reset_step :
    nextOf (step (about (block 15 19999 3000 3000 true 5 3) [.reset [0x030000000000000000]])) = some State.reset := by
  decide

/-! ### The assembler: R62, R63, and the patterns of 2.2 -/

theorem test_parse_configure :
    parseLine ['C', 'O', 'N', 'F', 'I', 'G', 'U', 'R', 'E', ' ', '0', 'x', '4', 'E', '2', '0', ',', ' ', '1', '5', '.', '0',
      ' ', ';', 'x'] = some (.configure 20000 (.real false 150 1)) := by decide
theorem test_parse_clk : parseLine ['C', 'L', 'K', ' ', '1', '2'] = some (.clk 12) := by decide
theorem test_assemble_exact :
    (DutyLit.real false 150 1).assemble = 0x41700000 ∧ (DutyLit.real true 50 0).assemble = 0xC2480000 ∧
    (DutyLit.real false 500 0).assemble = 0x43FA0000 ∧ (DutyLit.real false 125 1).assemble = 0x41480000 := by decide
/-- 2^24 + 1 lies half way between two binary32 numbers; the one with the even significand is 2^24 (R63, 93 K3). -/
theorem test_assemble_tie : (DutyLit.real false 16777217 0).assemble = 0x4B800000 := by decide

/-! ### Witnesses: states and operands that meet a statement's hypotheses -/

theorem running_isConfigured : running.IsConfigured where
  psc_fixed := rfl
  auto_reload := rfl
  mode := rfl
  direction := rfl
  polarity := rfl
  compare_preload := rfl
  reload_preload := rfl
  output := rfl
  compare_pre := ⟨0x41A00000, by decide⟩
  compare_act := .inr ⟨0x41A00000, by decide⟩
  stopped := by decide
  count_in_period := by decide
  prescale_in_range := by simp [running, block, BitVec.le_def]

/-- A configured block that is not started yet, one that runs, and the reset registers meet the invariant of R34: for
LifecycleInvariantBoundsTheCompareValue, UpdateEventLoadsTheActiveRegisters, and the clauses over R34's states elsewhere
(SilentUntilStart among them). -/
theorem witness_inv : running.Inv ∧ (block Config.pscFixed 9 2 0 false 0 0).Inv ∧ Regs.reset.Inv :=
  ⟨.inr running_isConfigured,
   .inr { running_isConfigured with
     compare_pre := ⟨0x41A00000, by decide⟩, compare_act := .inl rfl, stopped := by decide },
   .inl rfl⟩

/-- Launched states with each of the four kinds of next step. -/
theorem witness_launched :
    (about running [.issue 0x030000000000000000]).Launched ∧ (about running [.clk]).Launched ∧
    (about running [.reset []]).Launched ∧ (about running []).Launched :=
  ⟨⟨rfl, rfl⟩, ⟨rfl, rfl⟩, ⟨rfl, rfl⟩, ⟨rfl, rfl⟩⟩

theorem witness_ResetStepReplacesTheRegisters :
    ∃ s : State, s.Launched ∧ s.schedule = .reset [0x030000000000000000] :: [.clk] ∧ s.regs ≠ Regs.reset :=
  ⟨about running [.reset [0x030000000000000000], .clk], ⟨rfl, rfl⟩, rfl, by simp [about, running, block, Regs.reset]⟩

theorem witness_OnlyResetClearsCceOrCen :
    ∃ s t : State, step s = .next t ∧ (∀ p, s.nextEvent ≠ .reset p) ∧ s.regs.cce = true ∧ s.regs.cen = true :=
  ⟨about running [.issue 0x0], _, rfl, by simp [about, State.nextEvent], rfl, rfl⟩

theorem witness_BuildAcceptsExactlyTheLegalParameters : Config.buildPsc 16000000 1000000 = some 15 := by decide

theorem witness_BrokenLaunchPremiseIsRefused :
    ∃ s t : State, s.premises.clockEnabled = false ∧ t.premises.clockEnabled = true ∧ t.premises.pinRouted = false :=
  ⟨{ State.reset with premises := ⟨false, true⟩ }, { State.reset with premises := ⟨true, false⟩ }, rfl, rfl, rfl⟩

theorem witness_StepRunsTheDecodedCommand :
    ∃ (s : State) (w : CmdWord) (i : Instr) (rest : List Event),
      s.Launched ∧ s.schedule = .issue w :: rest ∧ decode w = .ok i :=
  ⟨about running [.issue 0x030000000000000000, .clk], _, .start, [.clk], ⟨rfl, rfl⟩, rfl, by decide⟩

theorem witness_StepRunsTheTimerAgent :
    ∃ s t : State, s.Launched ∧ t.Launched ∧ s.schedule = .clk :: [] ∧ t.schedule = [] :=
  ⟨about running [.clk], about running [], ⟨rfl, rfl⟩, ⟨rfl, rfl⟩, rfl, rfl⟩

theorem witness_EveryIssuedCommandGetsOneResponse :
    ∃ s t : State, s.Launched ∧ (∃ w rest, s.schedule = .issue w :: rest) ∧ t.Launched ∧
      ∀ w rest, t.schedule ≠ .issue w :: rest :=
  ⟨about running [.issue 0x0], about running [], ⟨rfl, rfl⟩, ⟨_, _, rfl⟩, ⟨rfl, rfl⟩, by simp [about]⟩

/-- Each cause of an error status, at the boundary of its range; `test_configure_V_C1` and `test_configure_largest_V_C3`
are the nearest words that are not errors. -/
theorem witness_ErrorStatusesHaveExactlyTheseCauses :
    (∃ s t : State, s.Launched ∧ s.schedule = [.issue 0x010000000041700000] ∧ step s = .next t ∧
      t.rsp = some ⟨.configError, 0⟩) ∧
    (∃ s t : State, s.Launched ∧ s.schedule = [.issue 0x010001000141700000] ∧ step s = .next t ∧
      t.rsp = some ⟨.configError, 0⟩) ∧
    (∃ s t : State, s.Launched ∧ s.schedule = [.issue 0x040000000000000000] ∧ step s = .next t ∧
      t.rsp = some ⟨.illegalCmd, 0⟩) ∧
    (∃ s t : State, s.Launched ∧ s.schedule = [.issue 0x000000000000000000] ∧ step s = .next t ∧
      t.rsp = some ⟨.illegalCmd, 0⟩) :=
  ⟨⟨about Regs.reset _, _, ⟨rfl, rfl⟩, rfl, rfl, rfl⟩, ⟨about Regs.reset _, _, ⟨rfl, rfl⟩, rfl, rfl, rfl⟩,
   ⟨about Regs.reset _, _, ⟨rfl, rfl⟩, rfl, rfl, rfl⟩, ⟨about Regs.reset _, _, ⟨rfl, rfl⟩, rfl, rfl, rfl⟩⟩

theorem witness_ErroringCommandWritesNothing :
    ∃ (s t : State) (w : CmdWord) (rest : List Event) (r : Response), s.Launched ∧ s.schedule = .issue w :: rest ∧
      step s = .next t ∧ t.rsp = some r ∧ r.status ≠ .ok :=
  ⟨about running [.issue 0x0100004E2041700000], _, _, _, ⟨.configError, 0⟩, ⟨rfl, rfl⟩, rfl, rfl, rfl, by decide⟩

theorem witness_ErrorsLeaveNothingBehind :
    ∃ (s t : State) (w v : CmdWord) (rest : List Event) (r : Response), s.Launched ∧
      s.schedule = .issue w :: .issue v :: rest ∧ step s = .next t ∧ t.rsp = some r ∧ r.status ≠ .ok ∧ v = w :=
  ⟨about Regs.reset [.issue 0x010000000041700000, .issue 0x010000000041700000], _, _, _, _, ⟨.configError, 0⟩,
    ⟨rfl, rfl⟩, rfl, rfl, rfl, by decide, rfl⟩

theorem witness_ReservedOpcodesAreIllegal :
    ∃ (s : State) (w v : CmdWord), s.Launched ∧ s.schedule = [.issue w] ∧ opField w = 0x00 ∧ 0x04 ≤ opField v :=
  ⟨about running [.issue 0x0], 0x0, 0x040000000000000000, ⟨rfl, rfl⟩, rfl, by decide, by decide⟩

theorem witness_DecodeUndoesEncode : Instr.wellFormed (.configure 0xFFFFFFFF 0x7FC00000) = true := by decide

theorem witness_EncodeUndoesDecodeOnUsedBits : decode 0x02DEADBEEFC2480000 = .ok (.setDuty 0xC2480000) := by decide

theorem witness_DecoderReadsOpcodeAlone :
    opField 0x01FFFFFFFFFFFFFFFF = 0x01 ∧ opField 0x020000000000000000 = 0x02 ∧ opField 0x030000000000000000 = 0x03 ∧
    opField 0x00FFFFFFFFFFFFFFFF = 0x00 ∧ 0x04 ≤ opField 0x040000000000000000 := by decide

theorem witness_DecimalDutyLiteralsRoundToNearestEven :
    ∃ (n decimals : Nat) (b c : Word32) (x y : Rat), (DutyLit.real false n decimals).assemble = b ∧ b < 0x7F800000 ∧
      f32val b = some (.fin x) ∧ f32val c = some (.fin y) ∧ b ≠ c ∧
      |x - (n : Rat) / 10 ^ decimals| = |y - (n : Rat) / 10 ^ decimals| := by
  refine ⟨16777217, 0, 0x4B800000, 0x4B800001, 16777216, 16777218, test_assemble_tie, by decide, ?_, ?_,
    by decide, by norm_num⟩ <;>
  · simp [f32val, f32Exp, f32Frac, f32Sign, applySign]
    norm_num

/-- The same for a negative literal, -50 of the spec's own vectors. -/
theorem witness_negative_literal :
    ∃ (n decimals : Nat) (b : Word32) (x v : Rat), (DutyLit.real true n decimals).assemble = b ∧
      f32val b = some (.fin x) ∧ v = applySign true ((n : Rat) / 10 ^ decimals) ∧ x = v :=
  ⟨50, 0, 0xC2480000, -50, -50, by decide, test_f32val_negative, by norm_num [applySign], rfl⟩

theorem witness_MapIsMonotoneInTheDuty :
    ∃ (d1 d2 : Word32) (x1 x2 : ExtRat), f32val d1 = some x1 ∧ f32val d2 = some x2 ∧ x1.le x2 :=
  ⟨0xC2480000, 0x41480000, _, _, test_f32val_negative, test_f32val_quarter, by norm_num [ExtRat.le]⟩

theorem witness_SpecialDutyOperandsAreCorrected :
    f32val 0x7F800001 = none ∧ f32val 0xFF800000 = some .negInf ∧ f32val 0x7F800000 = some .posInf ∧
    f32val 0x41480000 = some (.fin (25 / 2)) :=
  ⟨by decide, by decide, by decide, test_f32val_quarter⟩

/-- The shortest and the longest legal period, from a state in which no check of CONFIGURE fires, the reset registers: for
ConfigureRunsItsTenSteps, ConfigureFromResetLeavesCompareValuePending, AutoReloadWriteFollowsArpe, DutyRatioIsNearTheRequest
and FirstPeriodAfterStartHasNoPulse (whose pulse `test_map_edges` shows to be longer than 0 at the longest). -/
theorem witness_ConfigureRunsItsTenSteps :
    ∃ (s : State) (p q : Word32) (a b : Half), s.regs.cce = false ∧ 1 ≤ p.toNat ∧ p.toNat ≤ 65536 ∧
      a.toNat = p.toNat - 1 ∧ 1 ≤ q.toNat ∧ q.toNat ≤ 65536 ∧ b.toNat = q.toNat - 1 ∧ s.regs = Regs.reset :=
  ⟨State.reset, 1, 65536, 0, 65535, rfl, by decide, by decide, by decide, by decide, by decide, by decide, rfl⟩

theorem witness_ConfigureRefusals :
    (about running []).regs.cce = true ∧ (0 : Word32).toNat = 0 ∧ 65536 < (65537 : Word32).toNat ∧
    State.reset.regs.cce = false ∧ (65536 : Word32).toNat ≠ 0 ∧ (65536 : Word32).toNat ≤ 65536 := by
  refine ⟨rfl, ?_⟩
  decide

/-- Unconfigured states of R34 (the reset state), and a state with each value of ARPE and OCPE: for ForceUpdateCopiesOnly,
AutoReloadWriteFollowsArpe, CompareWriteFollowsOcpe. -/
theorem witness_preload_forms :
    Regs.reset.Inv ∧ Regs.reset.cce = false ∧ Regs.reset.arpe = false ∧ running.arpe = true ∧ Regs.reset.ocpe = false ∧
    running.ocpe = true :=
  ⟨.inl rfl, rfl, rfl, rfl, rfl, rfl⟩

/-- States with each value of the condition CCE that SET_DUTY and START check, the configured ones within R34: for
SetDutyRefusedOnlyWhileUnconfigured, SetDutyWritesTheCompareRegister, StartSetsTheCounterRunBitOnly,
StartAgainChangesNothing, SilentUntilStart. -/
theorem witness_SetDuty_and_Start :
    State.reset.regs.cce = false ∧ running.Inv ∧ running.cce = true ∧ running.cen = true ∧
    (block Config.pscFixed 9 2 0 false 0 0).cce = true ∧ (block Config.pscFixed 9 2 0 false 0 0).cen = false ∧
    (block Config.pscFixed 9 2 0 false 0 0).Inv :=
  ⟨rfl, witness_inv.1, rfl, rfl, rfl, rfl, witness_inv.2.1⟩

theorem witness_SetDutyTwiceGivesTheSameValue :
    ∃ (s t : State), s.regs.cce = true ∧ exec (.setDuty 0x41480000) s = .next t := ⟨about running [], _, rfl, rfl⟩

theorem witness_LastDutyBeforeTheBoundaryWins :
    ∃ (s : State) (ds : List Word32) (d : Word32), s.Launched ∧ s.regs.cce = true ∧ s.regs.ocpe = true ∧
      s.schedule = (ds ++ [d]).map (fun e => Event.issue (encode (.setDuty e))) :=
  ⟨about running [.issue (encode (.setDuty 0x41980000)), .issue (encode (.setDuty 0x418C0000))], [0x41980000], 0x418C0000,
    ⟨rfl, rfl⟩, rfl, rfl, rfl⟩

/-- The second clause, at the last clock before the boundary: two commands, then the boundary's CLK step. -/
theorem witness_LastDutyBeforeTheBoundaryWins_running :
    ∃ (es : List Event) (d : Word32) (m : Nat) (s : State), s.Launched ∧ s.regs.IsConfigured ∧ s.regs.cen = true ∧
      (∀ e ∈ es, e.IsDutyOrClk) ∧ es.count .clk + m + 1 = s.regs.clocksToBoundary ∧
      s.schedule = es ++ .issue (encode (.setDuty d)) :: List.replicate (m + 1) .clk := by
  refine ⟨[.issue (encode (.setDuty 0x41980000))], 0x418C0000, 0,
    about atBoundary [.issue (encode (.setDuty 0x41980000)), .issue (encode (.setDuty 0x418C0000)), .clk], ⟨rfl, rfl⟩,
    { running_isConfigured with
      compare_pre := ⟨0x41200000, by decide⟩, stopped := by decide, count_in_period := by decide,
      prescale_in_range := BitVec.le_refl _ }, rfl,
    fun e he => .inr ⟨0x41980000, List.mem_singleton.mp he⟩, ?_, rfl⟩
  simp [about, atBoundary, block, Regs.clocksToBoundary]

/-- Its count of clocks: 9 ticks and 15 clocks before the boundary's own, with a prescaler of 16. -/
theorem test_clocks_to_boundary :
    (block 15 9 2 2 true 0 0).clocksToBoundary = 160 ∧ (block 15 9 2 2 true 9 15).clocksToBoundary = 1 ∧
    (block 15 9 2 2 true 8 14).clocksToBoundary = 18 := by decide

/-- A premise that fails, and each kind of step with a next state. -/
theorem witness_StepIsTheStepRelation :
    stepRegs ⟨false, true⟩ .clk running = .refused .clockNotEnabled ∧
    (∃ r o, stepRegs .established (.issue 0x030000000000000000) running = .next (r, o)) ∧
    (∃ r o, stepRegs .established (.reset []) running = .next (r, o)) ∧ ∃ s t : State, step s = .next t :=
  ⟨rfl, ⟨_, _, rfl⟩, ⟨_, _, rfl⟩, about running [], _, rfl⟩

theorem witness_CoincidentWriteIsNeverMixed :
    ∃ s : State, s.Launched ∧ s.regs.cce = true ∧ s.regs.ocpe = true ∧ s.regs.cen = true ∧ s.regs.psc ≤ s.regs.pscCnt ∧
      s.regs.arrAct ≤ s.regs.cnt :=
  ⟨about atBoundary [], ⟨rfl, rfl⟩, rfl, rfl, rfl, BitVec.le_refl _, BitVec.le_refl _⟩

theorem witness_NewDutyIsActiveWithinOnePeriod :
    ∃ s t : State, s.Launched ∧ s.regs.Inv ∧ s.regs.cce = true ∧ s.schedule = [.issue (encode (.setDuty 0x41200000))] ∧
      s.regs.cen = true ∧ t.Launched ∧ t.regs.Inv ∧ t.regs.cce = true ∧
      t.schedule = [.issue (encode (.setDuty 0x41200000))] ∧ t.regs.cen = false :=
  ⟨about running [.issue (encode (.setDuty 0x41200000))],
   about (block Config.pscFixed 9 2 0 false 0 0) [.issue (encode (.setDuty 0x41200000))],
   ⟨rfl, rfl⟩, witness_inv.1, rfl, rfl, rfl, ⟨rfl, rfl⟩, witness_inv.2.1, rfl, rfl, rfl⟩

/-- Each command answering a next state: for OnlyConfigureWritesTheTimeBase, NoCommandWritesTheCounters and
SilentUntilStart. -/
theorem witness_exec_next :
    ∃ s t u v : State, exec .start s = .next t ∧ exec (.setDuty 0x41480000) s = .next u ∧
      exec (.configure 10 0x41480000) State.reset = .next v :=
  ⟨about running [], _, _, _, rfl, rfl, rfl⟩

theorem witness_CommandResultsDoNotDependOnTheSchedule :
    ∃ s t u : State, exec (.setDuty 0x41200000) s = .next t ∧
      exec (.setDuty 0x41200000) { s with regs := Regs.clkN 3 s.regs } = .next u :=
  ⟨about (block 1 9 2 2 true 0 0) [], _, _, rfl, rfl⟩

theorem witness_ConfiguredExactlyAfterASuccessfulConfigure :
    ∃ s t : State, step s = .next t ∧ s.regs.configured = false ∧ t.regs.configured = true ∧
      s.nextEvent = .issue 0x0100004E2041700000 ∧ t.rsp = some ⟨.ok, 3000⟩ :=
  ⟨about Regs.reset [.issue 0x0100004E2041700000], _, rfl, rfl, rfl, rfl, rfl⟩

/-- For ClkDividesByPscPlusOne and TickCountsAndRestartsAtAutoReload: a stopped counter, a prescaler below and at PSC, and a counter below and at ARR_ACT, zero among its values. -/
theorem witness_timer_forms :
    Regs.reset.cen = false ∧ (block 15 9 2 2 true 0 0).cen = true ∧ (block 15 9 2 2 true 0 0).pscCnt = 0 ∧
    (block 15 9 2 2 true 0 14).pscCnt < (block 15 9 2 2 true 0 14).psc ∧
    (block 15 9 2 2 true 0 15).psc ≤ (block 15 9 2 2 true 0 15).pscCnt ∧
    (block 15 9 2 2 true 8 0).cnt < (block 15 9 2 2 true 8 0).arrAct ∧
    (block 15 9 2 2 true 9 0).arrAct ≤ (block 15 9 2 2 true 9 0).cnt ∧
    (block 15 0 0 0 true 0 0).arrAct = 0 ∧ (block 15 0 0 0 true 0 0).cnt = 0 := by decide

theorem witness_PinIsHighBelowTheActiveCompareValue :
    Regs.reset.cce = false ∧ running.cce = true ∧ running.ccOut = true ∧ ({ running with ccOut := false }).ccOut = false :=
  ⟨rfl, rfl, rfl, rfl⟩

theorem witness_CompareAboveAutoReloadStaysHigh :
    ∃ r : Regs, r.cce = true ∧ r.ccOut = true ∧ r.ocm = .pwm1 ∧ r.ccp = .activeHigh ∧ r.arrPre = r.arrAct ∧
      r.ccrPre = r.ccrAct ∧ r.cnt ≤ r.arrAct ∧ r.arrAct < r.ccrAct :=
  ⟨block 0 9 10 10 true 9 0, by decide⟩

theorem witness_SteadyStateWaveform :
    ∃ s : State, s.Launched ∧ s.schedule = [] ∧ s.regs.IsConfigured ∧ s.regs.cen = true ∧ s.regs.cnt = 0 ∧
      s.regs.pscCnt = 0 ∧ 0 < s.regs.ccrAct.toNat :=
  ⟨about running [], ⟨rfl, rfl⟩, rfl, running_isConfigured, rfl, rfl, rfl, by decide⟩

theorem witness_StepKeepsTheLifecycleInvariant : ∃ s t : State, s.regs.Inv ∧ step s = .next t :=
  ⟨about running [.issue 0x0], _, witness_inv.1, rfl⟩

theorem witness_ReachableCompareNeverExceedsAutoReload :
    ∃ s t : State, s.Reachable ∧ step s = .next t ∧ s.regs.cce = true ∧ t.regs.cce = true :=
  ⟨_, _, .step _ _ (.reset [.issue 0x0100004E2041700000, .issue 0x0]) rfl, rfl, rfl, rfl⟩

end Sys2Proof.Tests
end

section
/-! PROOFS. The build-time parameters (spec/00_scope.md R7): which parameter sets build, and that the model's own do. -/

namespace Sys2Proof.Config

/-- The constraint of R7, clause by clause. -/
theorem wellFormed_iff (fClk fTick : Nat) :
    wellFormed fClk fTick = true ↔
      0 < fClk ∧ 0 < fTick ∧ fClk % fTick = 0 ∧ 1 ≤ fClk / fTick ∧ fClk / fTick ≤ 65536 := by
  simp only [wellFormed, Bool.and_eq_true, decide_eq_true_eq, and_assoc]

/-- One less than a quotient that R7 allows fits in the 16 bits of `PSC_FIXED`, so the divider is that number. -/
theorem ofNat_pred_eq_iff {q : Nat} (hq : q ≤ 65536) (psc : Half) :
    BitVec.ofNat 16 (q - 1) = psc ↔ psc.toNat = q - 1 := by
  have hfits : q - 1 < 2 ^ 16 := by omega
  rw [BitVec.toNat_eq, BitVec.toNat_ofNat, Nat.mod_eq_of_lt hfits, eq_comm]

/-- What a build gives: a divider exactly for the sets that meet R7's constraint, one less than the quotient. -/
theorem buildPsc_eq_some_iff (fClk fTick : Nat) (psc : Half) :
    buildPsc fClk fTick = some psc ↔ wellFormed fClk fTick = true ∧ psc.toNat = fClk / fTick - 1 := by
  unfold buildPsc
  split
  case isTrue hwf =>
    obtain ⟨-, -, -, -, hle⟩ := (wellFormed_iff fClk fTick).mp hwf
    simp only [Option.some.injEq, ofNat_pred_eq_iff hle, hwf, true_and]
  case isFalse hwf => simp [hwf]

theorem fTickHz_pos : 0 < fTickHz := Nat.succ_pos tickHzPred

theorem fClkHz_pos : 0 < fClkHz := Nat.mul_pos fTickHz_pos (Nat.succ_pos _)

@[simp] theorem fClkHz_mod_fTickHz : fClkHz % fTickHz = 0 := Nat.mul_mod_right ..

@[simp] theorem fClkHz_div_fTickHz : fClkHz / fTickHz = pscFixed.toNat + 1 := Nat.mul_div_cancel_left _ fTickHz_pos

/-- The model's own open parameters meet R7's constraint: their quotient is `PSC_FIXED + 1`, with `PSC_FIXED` a
16-bit number. -/
theorem wellFormed_fClkHz_fTickHz : wellFormed fClkHz fTickHz = true := by
  have hquot : pscFixed.toNat + 1 ≤ 65536 := pscFixed.isLt
  rw [wellFormed_iff, fClkHz_mod_fTickHz, fClkHz_div_fTickHz]
  exact ⟨fClkHz_pos, fTickHz_pos, rfl, Nat.succ_pos _, hquot⟩

theorem buildPsc_fClkHz_fTickHz : buildPsc fClkHz fTickHz = some pscFixed :=
  (buildPsc_eq_some_iff ..).mpr ⟨wellFormed_fClkHz_fTickHz, by simp⟩

/-- Settles O4: the test of `buildPsc` is R7's constraint, and every quotient it lets through gives a 16-bit divider. -/
theorem buildAcceptsExactlyTheLegalParameters : Obligations.BuildAcceptsExactlyTheLegalParameters := by
  unfold Obligations.BuildAcceptsExactlyTheLegalParameters
  refine ⟨fun fClk fTick psc => ?_, buildPsc_fClkHz_fTickHz⟩
  rw [buildPsc_eq_some_iff, wellFormed_iff]
  simp only [and_assoc]

end Sys2Proof.Config
end

section
/-! PROOFS. What a step does to the registers, said once for the statements of spec/10_state.md: the timer agent's CLK
by cases, the commands' effects by cases, and every step of either agent by cases. -/

namespace Sys2Proof.Machine

/-- What CLK can do (R91 to R93): nothing while stopped, else count a clock, count a tick, or restart at the period
boundary with the update event. -/
theorem Regs.clk_cases (r : Regs) :
    (r.cen = false ∧ r.clk = r) ∨
    (r.cen = true ∧ r.pscCnt < r.psc ∧ r.clk = { r with pscCnt := r.pscCnt + 1 }) ∨
    (r.cen = true ∧ r.cnt < r.arrAct ∧ r.clk = { r with pscCnt := 0, cnt := r.cnt + 1 }) ∨
    (r.cen = true ∧ r.arrAct ≤ r.cnt ∧
      r.clk = { r with pscCnt := 0, cnt := 0, arrAct := r.arrPre, ccrAct := r.ccrPre }) := by
  obtain hcen | hcen := r.cen.eq_false_or_eq_true
  · obtain ⟨-, hclk⟩ | ⟨hpsc, hclk⟩ := r.clk_running hcen
    · obtain ⟨hcnt, htick⟩ | ⟨hcnt, htick⟩ := ({ r with pscCnt := 0 } : Regs).tick_cases
      · exact .inr (.inr (.inr ⟨hcen, hcnt, hclk.trans htick⟩))
      · exact .inr (.inr (.inl ⟨hcen, hcnt, hclk.trans htick⟩))
    · exact .inr (.inl ⟨hcen, hpsc, hclk⟩)
  · exact .inl ⟨hcen, r.clk_stopped hcen⟩

/-- While OCPE = 1, `WriteCCR` writes the preload copy alone (R79). -/
theorem Regs.writeCcr_of_ocpe {r : Regs} (h : r.ocpe = true) (v : Half) : r.writeCcr v = { r with ccrPre := v } := by
  simp [Regs.writeCcr, h]

@[simp] theorem Regs.reset_cce : Regs.reset.cce = false := rfl

@[simp] theorem configureSteps_cce (p d : Word32) (r : Regs) : (configureSteps p d r).1.cce = true := rfl

/-- The ten steps of CONFIGURE from the reset registers: the initial duty waits in CCR_PRE (R70). -/
theorem configureSteps_reset (p d : Word32) :
    (configureSteps p d Regs.reset).1 =
      ⟨Config.pscFixed, autoReloadOf p, autoReloadOf p, mapDuty d (autoReloadOf p), 0, .pwm1, true, .activeHigh, true,
        true, true, false, 0, 0⟩ := rfl

/-- What a command can do to the registers: nothing, or what CONFIGURE does to an unconfigured block, or SET_DUTY
or START to a configured one. -/
theorem commandEffect_regs_cases (i : Instr) (r : Regs) :
    (commandEffect i r).1 = r ∨
    (r.cce = false ∧ ∃ p d, (commandEffect i r).1 = (configureSteps p d r).1) ∨
    (r.cce = true ∧ ∃ d, (commandEffect i r).1 = r.writeCcr (mapDuty d r.arrPre)) ∨
    (r.cce = true ∧ (commandEffect i r).1 = { r with cen := true }) := by
  cases i with
  | configure p d =>
    obtain ⟨-, heff⟩ | ⟨hcce, -, -, heff⟩ := r.configure_cases p d
    · exact .inl (congrArg Prod.fst heff)
    · exact .inr (.inl ⟨hcce, p, d, congrArg Prod.fst heff⟩)
  | setDuty d =>
    obtain ⟨-, heff⟩ | ⟨hcce, heff⟩ := r.setDuty_cases d
    · exact .inl (congrArg Prod.fst heff)
    · exact .inr (.inr (.inl ⟨hcce, d, congrArg Prod.fst heff⟩))
  | start =>
    obtain ⟨-, heff⟩ | ⟨hcce, heff⟩ := r.start_cases
    · exact .inl (congrArg Prod.fst heff)
    · exact .inr (.inr (.inr ⟨hcce, congrArg Prod.fst heff⟩))

/-- What one step of either agent can do to the registers. -/
theorem step_regs_cases {s t : State} (h : step s = .next t) :
    t.regs = s.regs ∨
    (s.regs.cce = false ∧ ∃ p d, t.regs = (configureSteps p d s.regs).1) ∨
    (s.regs.cce = true ∧ ∃ d, t.regs = s.regs.writeCcr (mapDuty d s.regs.arrPre)) ∨
    (s.regs.cce = true ∧ t.regs = { s.regs with cen := true }) ∨
    t.regs = s.regs.clk ∨
    t.regs = Regs.reset := by
  obtain ⟨-, ⟨w, i, -, -, rfl⟩ | ⟨w, e, -, -, rfl⟩ | ⟨-, rfl⟩ | ⟨ws, -, rfl⟩⟩ := step_cases h
  · obtain heff | heff | heff | heff := commandEffect_regs_cases i s.regs
    · exact .inl heff
    · exact .inr (.inl heff)
    · exact .inr (.inr (.inl heff))
    · exact .inr (.inr (.inr (.inl heff)))
  · exact .inl rfl
  · exact .inr (.inr (.inr (.inr (.inl rfl))))
  · exact .inr (.inr (.inr (.inr (.inr rfl))))

/-- A command leaves the block configured exactly if it was before, or the command is a CONFIGURE answered OK (R29). -/
theorem commandEffect_cce_iff (i : Instr) (r : Regs) :
    (commandEffect i r).1.cce = true ↔
      r.cce = true ∨ ∃ p d v, i = .configure p d ∧ (commandEffect i r).2 = ⟨.ok, v⟩ := by
  cases i with
  | configure p d =>
    obtain ⟨-, heff⟩ | ⟨-, -, -, heff⟩ := r.configure_cases p d
    all_goals simp [commandEffect, heff]
  | setDuty d =>
    obtain ⟨-, heff⟩ | ⟨-, heff⟩ := r.setDuty_cases d
    all_goals simp [commandEffect, heff]
  | start =>
    obtain ⟨-, heff⟩ | ⟨-, heff⟩ := r.start_cases
    all_goals simp [commandEffect, heff]

/-- No step that starts and ends in a configured block writes ARR_PRE: CONFIGURE is refused there (R66), and RESET
unconfigures it. -/
theorem step_keeps_arrPre {s t : State} (h : step s = .next t) (hs : s.regs.cce = true) (ht : t.regs.cce = true) :
    t.regs.arrPre = s.regs.arrPre := by
  obtain hr | ⟨hcce, -⟩ | ⟨-, d, hr⟩ | ⟨-, hr⟩ | hr | hr := step_regs_cases h
  · rw [hr]
  · simp [hs] at hcce
  · rw [hr, Regs.writeCcr_arrPre]
  · rw [hr]
  · rw [hr, Regs.clk_arrPre]
  · simp [hr] at ht

end Sys2Proof.Machine
end

section
/-! PROOFS. The lifecycle invariant of spec/10_state.md R34: every step keeps it, so every reachable state meets it, and
it implies the compare bounds of R28. -/

namespace Sys2Proof.Machine

theorem Half.zero_le (a : Half) : 0 ≤ a := BitVec.le_def.mpr (Nat.zero_le _)

/-- A 16-bit count below its limit does not pass it by counting up. -/
theorem Half.add_one_le_of_lt {a b : Half} (h : a < b) : a + 1 ≤ b := by
  bv_omega

/-- MAP's result is at most the auto-reload value, since the percentage is clamped to at most 20 (R75). -/
theorem mapDuty_le (d : Word32) (a : Half) : mapDuty d a ≤ a := by
  have hprod : clampedPercent d * a.toNat ≤ 20971520 * a.toNat :=
    Nat.mul_le_mul_right _ (clampedPercent_range d).2
  rw [BitVec.le_def, mapDuty_toNat]
  omega

/-- Counting a clock needs PSC_CNT < PSC, counting a tick needs CNT < ARR_ACT, and the update event loads a CCR_PRE that
is MAP of a duty. -/
theorem Regs.IsConfigured.clk {r : Regs} (h : r.IsConfigured) : r.clk.IsConfigured := by
  obtain ⟨-, hclk⟩ | ⟨hcen, hpsc, hclk⟩ | ⟨hcen, hcnt, hclk⟩ | ⟨hcen, -, hclk⟩ := r.clk_cases
  · rwa [hclk]
  · rw [hclk]
    exact { h with
      stopped := by simp [hcen]
      prescale_in_range := Half.add_one_le_of_lt hpsc }
  · rw [hclk]
    exact { h with
      stopped := by simp [hcen]
      count_in_period := Half.add_one_le_of_lt hcnt
      prescale_in_range := Half.zero_le _ }
  · rw [hclk]
    exact { h with
      auto_reload := rfl
      compare_act := .inr h.compare_pre
      stopped := by simp [hcen]
      count_in_period := Half.zero_le _
      prescale_in_range := Half.zero_le _ }

theorem Regs.IsConfigured.writeCcr {r : Regs} (h : r.IsConfigured) (d : Word32) :
    (r.writeCcr (mapDuty d r.arrPre)).IsConfigured := by
  rw [Regs.writeCcr_of_ocpe h.compare_preload]
  exact { h with compare_pre := ⟨d, rfl⟩ }

theorem Regs.IsConfigured.run {r : Regs} (h : r.IsConfigured) : ({ r with cen := true } : Regs).IsConfigured :=
  { h with stopped := by simp }

theorem configureSteps_reset_isConfigured (p d : Word32) : (configureSteps p d Regs.reset).1.IsConfigured := by
  rw [configureSteps_reset]
  exact {
    psc_fixed := rfl
    auto_reload := rfl
    mode := rfl
    direction := rfl
    polarity := rfl
    compare_preload := rfl
    reload_preload := rfl
    output := rfl
    compare_pre := ⟨d, rfl⟩
    compare_act := .inl rfl
    stopped := fun _ => ⟨rfl, rfl, rfl⟩
    count_in_period := Half.zero_le _
    prescale_in_range := Half.zero_le _ }

/-- CCE tells the two kinds of R34's states apart. -/
theorem Regs.Inv.isConfigured {r : Regs} (h : r.Inv) (hcce : r.cce = true) : r.IsConfigured := by
  obtain rfl | hconf := h
  · simp at hcce
  · exact hconf

theorem Regs.Inv.eq_reset {r : Regs} (h : r.Inv) (hcce : r.cce = false) : r = Regs.reset := by
  obtain hreset | hconf := h
  · exact hreset
  · simp [hconf.output] at hcce

theorem Regs.Inv.clk {r : Regs} (h : r.Inv) : r.clk.Inv := by
  obtain rfl | hconf := h
  · exact .inl (Regs.clk_stopped rfl)
  · exact .inr hconf.clk

/-- Every step of either agent keeps the invariant of R34. -/
theorem Regs.Inv.step {s t : State} (hinv : s.regs.Inv) (h : Machine.step s = .next t) : t.regs.Inv := by
  obtain hr | ⟨hcce, p, d, hr⟩ | ⟨hcce, d, hr⟩ | ⟨hcce, hr⟩ | hr | hr := step_regs_cases h
  · rwa [hr]
  · rw [hr, hinv.eq_reset hcce]
    exact .inr (configureSteps_reset_isConfigured p d)
  · rw [hr]
    exact .inr ((hinv.isConfigured hcce).writeCcr d)
  · rw [hr]
    exact .inr (hinv.isConfigured hcce).run
  · rw [hr]
    exact hinv.clk
  · exact .inl hr

/-- The invariant implies the compare bounds of R28: a compare copy is 0 or MAP of a duty. -/
theorem Regs.Inv.compareInBounds {r : Regs} (h : r.Inv) : r.CompareInBounds := by
  obtain rfl | hconf := h
  · exact ⟨Half.zero_le _, Half.zero_le _⟩
  · obtain ⟨d, hpre⟩ := hconf.compare_pre
    refine ⟨hpre ▸ mapDuty_le d _, ?_⟩
    rw [hconf.auto_reload]
    obtain hact | ⟨d', hact⟩ := hconf.compare_act
    · exact hact ▸ Half.zero_le _
    · exact hact ▸ mapDuty_le d' _

/-- Settles O56: the reset registers are the first kind of R34's states. -/
theorem lifecycleInvariantHoldsAtReset : Obligations.LifecycleInvariantHoldsAtReset :=
  fun _ => .inl rfl

/-- Every state of a run from reset meets the invariant of R34. -/
theorem State.Reachable.inv {s : State} (h : s.Reachable) : s.regs.Inv := by
  induction h with
  | reset schedule => exact lifecycleInvariantHoldsAtReset schedule
  | step s t _ hstep ih => exact ih.step hstep

/-- Settles O59, by the invariant of R34: it bounds the compare copies, and it makes ARR_ACT equal to ARR_PRE both
before and after the step, which does not write ARR_PRE. -/
theorem reachableCompareNeverExceedsAutoReload : Obligations.ReachableCompareNeverExceedsAutoReload := by
  intro s hreach
  obtain ⟨hpre, hact⟩ := hreach.inv.compareInBounds
  refine ⟨hpre, hact, fun t hstep hs ht => ?_⟩
  have harr : t.regs.arrPre = s.regs.arrPre := step_keeps_arrPre hstep hs ht
  have hs' : s.regs.arrAct = s.regs.arrPre := (hreach.inv.isConfigured hs).auto_reload
  have ht' : t.regs.arrAct = t.regs.arrPre := ((hreach.inv.step hstep).isConfigured ht).auto_reload
  exact ⟨harr, by rw [ht', harr, hs']⟩

end Sys2Proof.Machine
end

section
/-! PROOFS. The other statements of spec/10_state.md: the reset registers (R33), the meaning of CCE (R29), the frame of
the timer agent (R30), the error state that R28 rules out (R95), and the step relation (R32). -/

namespace Sys2Proof.Machine

/-- Settles O1, by evaluating the output ports at reset. -/
theorem resetRegistersAreAllZero : Obligations.ResetRegistersAreAllZero :=
  ⟨by decide, rfl, rfl, rfl⟩

/-- Settles O46, by the four kinds of step: only an issued command can configure the block, and only RESET unconfigures
it. -/
theorem configuredExactlyAfterASuccessfulConfigure : Obligations.ConfiguredExactlyAfterASuccessfulConfigure := by
  refine ⟨rfl, fun s t h => ?_⟩
  obtain ⟨-, ⟨w, i, he, hd, rfl⟩ | ⟨w, e, he, -, rfl⟩ | ⟨he, rfl⟩ | ⟨ws, he, rfl⟩⟩ := step_cases h
  · simp [Regs.configured, he, hd, commandEffect_cce_iff]
  · simp [Regs.configured, he]
  · simp [Regs.configured, he]
  · simp [Regs.configured, he]

/-- One CLK step writes CNT, PSC_CNT, ARR_ACT and CCR_ACT only (R30). -/
theorem Regs.clk_frame (r : Regs) : ∃ cnt pscCnt arrAct ccrAct,
    r.clk = { r with cnt := cnt, pscCnt := pscCnt, arrAct := arrAct, ccrAct := ccrAct } := by
  obtain ⟨-, hclk⟩ | ⟨-, -, hclk⟩ | ⟨-, -, hclk⟩ | ⟨-, -, hclk⟩ := r.clk_cases
  all_goals exact ⟨_, _, _, _, hclk⟩

/-- Settles O44, by induction on the number of CLK steps. -/
theorem timerAgentWritesItsRegistersOnly : Obligations.TimerAgentWritesItsRegistersOnly := by
  intro n r
  induction n with
  | zero => exact ⟨_, _, _, _, rfl⟩
  | succ n ih =>
    obtain ⟨cnt, pscCnt, arrAct, ccrAct, hn⟩ := ih
    obtain ⟨cnt', pscCnt', arrAct', ccrAct', hlast⟩ := (Regs.clkN n r).clk_frame
    exact ⟨cnt', pscCnt', arrAct', ccrAct', by rw [Regs.clkN_succ_last, hlast, hn]⟩

/-- The error state of R95: an enabled active-high PWM1 block whose two pairs of copies agree, with the counter in its
period and the compare value above the auto-reload value. -/
structure Regs.CompareAbove (r : Regs) : Prop where
  output : r.cce = true
  direction : r.ccOut = true
  mode : r.ocm = .pwm1
  polarity : r.ccp = .activeHigh
  auto_reload : r.arrPre = r.arrAct
  compare : r.ccrPre = r.ccrAct
  count_in_period : r.cnt ≤ r.arrAct
  above : r.arrAct < r.ccrAct

/-- The update event reloads the values that are active already, so the error state is never left. -/
theorem Regs.CompareAbove.clk {r : Regs} (h : r.CompareAbove) : r.clk.CompareAbove := by
  obtain ⟨-, hclk⟩ | ⟨-, -, hclk⟩ | ⟨-, hcnt, hclk⟩ | ⟨-, -, hclk⟩ := r.clk_cases
  · rwa [hclk]
  · rw [hclk]
    exact { h with }
  · rw [hclk]
    exact { h with count_in_period := Half.add_one_le_of_lt hcnt }
  · rw [hclk, h.auto_reload, h.compare]
    exact { h with
      auto_reload := rfl
      compare := rfl
      count_in_period := Half.zero_le _ }

theorem Regs.CompareAbove.clkN {r : Regs} (h : r.CompareAbove) (n : Nat) : (Regs.clkN n r).CompareAbove := by
  induction n with
  | zero => exact h
  | succ n ih => rw [Regs.clkN_succ_last]; exact ih.clk

/-- In the error state the counter stays below the compare value, so the pin is high (R94). -/
theorem Regs.CompareAbove.pwmOut {r : Regs} (h : r.CompareAbove) : r.pwmOut = true := by
  have hcnt : r.cnt < r.ccrAct := Std.lt_of_le_of_lt h.count_in_period h.above
  simp [Regs.pwmOut, Regs.active, h.output, h.direction, h.mode, h.polarity, hcnt]

/-- Settles O51: CLK never leaves the error state of R95, in which the pin is high. -/
theorem compareAboveAutoReloadStaysHigh : Obligations.CompareAboveAutoReloadStaysHigh := by
  intro n r hcce hccOut hocm hccp harr hccr hcnt habove
  have h : r.CompareAbove := ⟨hcce, hccOut, hocm, hccp, harr, hccr, hcnt, habove⟩
  exact (h.clkN n).pwmOut

/-- A result of the step relation, put back into the configuration it was asked for: the step taken leaves the schedule,
and the premises stay. -/
def State.resume (s : State) : Host.Outcome (Regs × Option Response) Fault Refusal → StepResult
  | .next (r, o) => .next ⟨r, o, s.schedule.tail, s.premises⟩
  | .fault why => .fault why
  | .refused why => .refused why

/-- The machine's step is the step relation on a configuration. -/
theorem step_eq_resume_stepRegs (s : State) : step s = s.resume (stepRegs s.premises s.nextEvent s.regs) := by
  unfold step stepRegs
  cases s.premises.broken with
  | some why => rfl
  | none =>
    cases s.nextEvent with
    | issue w =>
      dsimp only [wordEffect]
      cases decode w with
      | ok i => exact exec_eq i s.advance
      | error e => rfl
    | clk => rfl
    | reset presented => rfl

/-- Settles O60, by the relation's three outcomes. -/
theorem stepIsTheStepRelation : Obligations.StepIsTheStepRelation := by
  intro s
  rw [step_eq_resume_stepRegs]
  cases stepRegs s.premises s.nextEvent s.regs with
  | next a =>
    obtain ⟨r, o⟩ := a
    simp [State.resume]
  | fault why => nomatch why
  | refused why => simp [State.resume]

end Sys2Proof.Machine
end

section
/-! PROOFS. The statements about encoding and byte order (spec/30_encoding.md sections 1 to 3, spec/20_memory.md R37):
the decoder undoes the encoder, and the bytes of a word give it back. -/

namespace Sys2Proof

/-! ### The decoder on packed words -/

theorem decode_packCommand_configure (p d : Word32) : decode (packCommand 0x01#8 p d) = .ok (.configure p d) := by
  simp [decode]

theorem decode_packCommand_setDuty (p d : Word32) : decode (packCommand 0x02#8 p d) = .ok (.setDuty d) := by
  simp [decode]

theorem decode_packCommand_start (p d : Word32) : decode (packCommand 0x03#8 p d) = .ok .start := by
  simp [decode]

@[simp] theorem decode_encode (i : Instr) : decode (encode i) = .ok i := by
  cases i with
  | configure p d => exact decode_packCommand_configure p d
  | setDuty d => exact decode_packCommand_setDuty 0 d
  | start => exact decode_packCommand_start 0 0

/-! ### Serialised words -/

@[simp] theorem length_bytesOfWord (w : CmdWord) : (bytesOfWord w).length = 9 := rfl

theorem getElem?_bytesOfWord (w : CmdWord) {k : Nat} (hk : k < 9) :
    (bytesOfWord w)[k]? = some (w.extractLsb' (8 * k) 8) := by
  simp [bytesOfWord, hk]

theorem wordOfBytes_cons (b : Byte) (bs : List Byte) :
    wordOfBytes (b :: bs) = wordOfBytes bs <<< (8 : Nat) ||| b.setWidth 72 := rfl

/-- Bit `i` of the word of some bytes is bit `i % 8` of byte `i / 8`; a byte that is not there counts as 0. -/
theorem getLsbD_wordOfBytes (bs : List Byte) {i : Nat} (hi : i < 72) :
    (wordOfBytes bs).getLsbD i = (bs[i / 8]?.getD 0).getLsbD (i % 8) := by
  induction bs generalizing i with
  | nil => simp [wordOfBytes]
  | cons b bs ih =>
    rw [wordOfBytes_cons, BitVec.getLsbD_or, BitVec.getLsbD_shiftLeft, BitVec.getLsbD_setWidth]
    by_cases hlow : i < 8
    · simp [hi, hlow, Nat.div_eq_of_lt hlow, Nat.mod_eq_of_lt hlow]
    · have hdiv : i / 8 = (i - 8) / 8 + 1 := by omega
      have hmod : i % 8 = (i - 8) % 8 := by omega
      simp [hi, hlow, ih (show i - 8 < 72 by omega), hdiv, hmod, BitVec.getLsbD_of_ge b i (by omega)]

theorem wordOfBytes_bytesOfWord (w : CmdWord) : wordOfBytes (bytesOfWord w) = w := by
  refine BitVec.eq_of_getLsbD_eq fun i hi => ?_
  have hbit : 8 * (i / 8) + i % 8 = i := Nat.div_add_mod i 8
  rw [getLsbD_wordOfBytes _ hi, getElem?_bytesOfWord w (show i / 8 < 9 by omega), Option.getD_some,
    BitVec.getLsbD_extractLsb', hbit]
  simp [Nat.mod_lt]

/-- The byte decoder on a whole serialised word is the decoder. -/
theorem decodeBytes_bytesOfWord (w : CmdWord) : decodeBytes (bytesOfWord w) = decode w := by
  simp [decodeBytes, wholeCommand, wordOfBytes_bytesOfWord]

/-- Settles O14, by the three commands for the word, and the round trip of the word for its bytes. -/
theorem decodeUndoesEncode : Obligations.DecodeUndoesEncode := by
  intro i _
  exact ⟨decode_encode i, (decodeBytes_bytesOfWord _).trans (decode_encode i)⟩

/-- Byte `k` of a serialised response is bits `8k+7..8k` of its word under six zero bits (R37). -/
theorem Machine.Response.getElem?_bytes (r : Machine.Response) {k : Nat} (hk : k < 3) :
    r.bytes[k]? = some ((r.word.setWidth 24).extractLsb' (8 * k) 8) := by
  simp [Machine.Response.bytes, hk]

/-- The last byte of a widened response word holds its top two bits, under zeros. -/
theorem extractLsb'_setWidth_top (w : RspWord) :
    (w.setWidth 24).extractLsb' 16 8 = (w.extractLsb' 16 2).setWidth 8 := by
  refine BitVec.eq_of_getLsbD_eq fun i hi => ?_
  by_cases htop : i < 2
  · simp [hi, htop, show 16 + i < 24 by omega]
  · simp [htop, BitVec.getLsbD_of_ge w (16 + i) (by omega)]

/-- Settles O18, byte by byte. -/
theorem wordsSerialiseLeastSignificantByteFirst : Obligations.WordsSerialiseLeastSignificantByteFirst := by
  refine ⟨fun w => ⟨length_bytesOfWord w, wordOfBytes_bytesOfWord w, fun k hk => getElem?_bytesOfWord w hk⟩,
    fun r => ⟨rfl, ?_, ?_, ?_⟩⟩
  · rw [r.getElem?_bytes (by decide), BitVec.extractLsb'_setWidth_of_le (by decide)]
  · rw [r.getElem?_bytes (by decide), BitVec.extractLsb'_setWidth_of_le (by decide)]
  · rw [r.getElem?_bytes (by decide), extractLsb'_setWidth_top]

end Sys2Proof
end

section
/-! PROOFS. Runs along a schedule (spec/20_memory.md R42 to R44): the scheduled events act on the registers in their
order, each whole. -/

namespace Sys2Proof.Machine

/-! ### One step -/

/-- Settles O6, by the step's two tests: the premises hold, and the next event is the word. -/
theorem stepRunsTheDecodedCommand : Obligations.StepRunsTheDecodedCommand := by
  intro s w i rest hl hs hd
  simp [step, hl.not_broken, State.nextEvent, State.advance, hs, hd]

/-- What one step of either agent does to the registers (R44). -/
def Event.effect : Event → Regs → Regs
  | .issue w, r => (wordEffect w r).1
  | .clk, r => r.clk
  | .reset presented, r => r.resetStep presented

/-- In a launched state the scheduled event is taken, and acts on the registers. -/
theorem step_scheduled {s : State} {e : Event} {rest : List Event} (hl : s.Launched) (hs : s.schedule = e :: rest) :
    ∃ t : State, step s = .next t ∧ t.regs = e.effect s.regs ∧ t.Launched ∧ t.schedule = rest := by
  have hnext : s.nextEvent = e := by simp [State.nextEvent, hs]
  have htail : s.schedule.tail = rest := by simp [hs]
  simp only [step_eq_resume_stepRegs, hnext, stepRegs, hl.not_broken]
  cases e with
  | issue w => exact ⟨_, rfl, rfl, hl, htail⟩
  | clk => exact ⟨_, rfl, rfl, hl, htail⟩
  | reset presented => exact ⟨_, rfl, rfl, hl, htail⟩

/-! ### Runs -/

theorem run_succ {s t : State} (n : Nat) (h : step s = .next t) : core.run (n + 1) s = core.run n t := by
  have hcore : core.step s = .next t := h
  simp only [Host.Core.run, hcore]

/-- A run goes on from where a shorter one ended. -/
theorem run_add {n : Nat} {s t : State} (m : Nat) (h : core.run n s = .next t) :
    core.run (n + m) s = core.run m t := by
  induction n generalizing s with
  | zero =>
    obtain rfl : s = t := Host.Outcome.next.inj h
    rw [Nat.zero_add]
  | succ n ih =>
    cases hstep : step s with
    | next u =>
      rw [run_succ n hstep] at h
      rw [Nat.succ_add, run_succ _ hstep, ih h]
    | fault why => nomatch why
    | refused why =>
      have hcore : core.step s = .refused why := hstep
      simp [Host.Core.run, hcore] at h

/-- The registers after the events of a schedule, in order. -/
def Regs.after (es : List Event) (r : Regs) : Regs := es.foldl (fun q e => e.effect q) r

@[simp] theorem Regs.after_nil (r : Regs) : r.after [] = r := rfl

@[simp] theorem Regs.after_cons (e : Event) (es : List Event) (r : Regs) :
    r.after (e :: es) = (e.effect r).after es := rfl

theorem Regs.after_append (es fs : List Event) (r : Regs) : r.after (es ++ fs) = (r.after es).after fs :=
  List.foldl_append

/-- A launched run takes the events of its schedule in order. -/
theorem run_scheduled {s : State} (es : List Event) {rest : List Event} (hl : s.Launched)
    (hs : s.schedule = es ++ rest) :
    ∃ t : State, core.run es.length s = .next t ∧ t.regs = s.regs.after es ∧ t.Launched ∧ t.schedule = rest := by
  induction es generalizing s with
  | nil => exact ⟨s, rfl, rfl, hl, hs⟩
  | cons e es ih =>
    obtain ⟨u, hstep, hu, hlu, hsu⟩ := step_scheduled hl hs
    obtain ⟨t, hrun, ht, hlt, hst⟩ := ih hlu hsu
    exact ⟨t, (run_succ _ hstep).trans hrun, by rw [ht, hu, Regs.after_cons], hlt, hst⟩

/-! ### SET_DUTY and CLK as events -/

@[simp] theorem Event.effect_clk (r : Regs) : Event.clk.effect r = r.clk := rfl

@[simp] theorem Event.effect_issue_encode (i : Instr) (r : Regs) :
    (Event.issue (encode i)).effect r = (commandEffect i r).1 := by
  simp [Event.effect, wordEffect]

theorem Regs.setDuty_of_configured {r : Regs} (h : r.cce = true) (d : Word32) :
    r.setDuty d = (r.writeCcr (mapDuty d r.arrPre), ⟨.ok, mapDuty d r.arrPre⟩) := by
  simp [Regs.setDuty, Regs.configured, h]

theorem Event.effect_setDuty {r : Regs} (hcce : r.cce = true) (d : Word32) :
    (Event.issue (encode (.setDuty d))).effect r = r.writeCcr (mapDuty d r.arrPre) := by
  rw [Event.effect_issue_encode]
  exact congrArg Prod.fst (Regs.setDuty_of_configured hcce d)

/-- At the period boundary the CLK step restarts both counts and loads the active registers (R92, R93). -/
theorem Regs.clk_boundary {r : Regs} (hcen : r.cen = true) (hpsc : r.psc ≤ r.pscCnt) (hcnt : r.arrAct ≤ r.cnt) :
    r.clk = { r with pscCnt := 0, cnt := 0, arrAct := r.arrPre, ccrAct := r.ccrPre } := by
  simp [Regs.clk, Regs.tick, Regs.loadActive, hcen, hpsc, hcnt]

/-- Settles O37: under OCPE = 1 SET_DUTY writes CCR_PRE alone, and the boundary copies CCR_PRE, in either order. -/
theorem coincidentWriteIsNeverMixed : Obligations.CoincidentWriteIsNeverMixed := by
  intro d s hl hcce hocpe hcen hpsc hcnt
  constructor
  · obtain ⟨t, hrun, ht, -, -⟩ := run_scheduled
      (s := { s with schedule := [.issue (encode (.setDuty d)), .clk] }) _ hl (List.append_nil _).symm
    have hregs : t.regs = (s.regs.writeCcr (mapDuty d s.regs.arrPre)).clk := by
      rw [ht, Regs.after_cons, Event.effect_setDuty hcce]
      rfl
    have hclk := Regs.clk_boundary (r := s.regs.writeCcr (mapDuty d s.regs.arrPre)) (by simpa using hcen)
      (by simpa using hpsc) (by simpa using hcnt)
    exact ⟨t, hrun, by simp [hregs, hclk], by simp [hregs]⟩
  · obtain ⟨t, hrun, ht, -, -⟩ := run_scheduled
      (s := { s with schedule := [.clk, .issue (encode (.setDuty d))] }) _ hl (List.append_nil _).symm
    have hregs : t.regs = s.regs.clk.writeCcr (mapDuty d s.regs.clk.arrPre) :=
      ht.trans (Event.effect_setDuty (by simpa using hcce) d)
    have hclk := Regs.clk_boundary hcen hpsc hcnt
    exact ⟨t, hrun, by simp [hregs, hclk, hocpe], by simp [hregs]⟩

end Sys2Proof.Machine
end

section
/-! PROOFS. Of several SET_DUTY commands before a period boundary the last one counts (spec/20_memory.md R49,
spec/41_set_duty.md R80). -/

namespace Sys2Proof.Machine

/-! ### Commands with nothing between them -/

/-- Any SET_DUTY commands write CCR_PRE alone. -/
theorem Regs.after_setDuties {r : Regs} (hcce : r.cce = true) (hocpe : r.ocpe = true) (ds : List Word32) :
    ∃ v, r.after (ds.map fun d => Event.issue (encode (.setDuty d))) = { r with ccrPre := v } := by
  induction ds generalizing r with
  | nil => exact ⟨_, rfl⟩
  | cons d ds ih =>
    rw [List.map_cons, Regs.after_cons, Event.effect_setDuty hcce, Regs.writeCcr_of_ocpe hocpe]
    exact ih hcce hocpe

/-- The first clause of LastDutyBeforeTheBoundaryWins: the last of the commands overwrites what the others wrote. -/
theorem run_setDuties (ds : List Word32) (d : Word32) {s : State} (hl : s.Launched) (hcce : s.regs.cce = true)
    (hocpe : s.regs.ocpe = true)
    (hs : s.schedule = (ds ++ [d]).map (fun e => Event.issue (encode (.setDuty e)))) :
    ∃ t : State, core.run (ds.length + 1) s = .next t ∧
      t.regs = { s.regs with ccrPre := mapDuty d s.regs.arrPre } ∧ t.rsp = some ⟨.ok, mapDuty d s.regs.arrPre⟩ := by
  rw [List.map_append] at hs
  obtain ⟨u, hrun, hu, hlu, hsu⟩ := run_scheduled _ hl hs
  obtain ⟨v, hv⟩ := Regs.after_setDuties hcce hocpe ds
  rw [hv] at hu
  have hcce' : u.regs.cce = true := by rw [hu, hcce]
  have hocpe' : u.regs.ocpe = true := by rw [hu, hocpe]
  have hstep := stepRunsTheDecodedCommand u _ (.setDuty d) [] hlu hsu (decode_encode _)
  rw [exec_eq, commandEffect, Regs.setDuty_of_configured hcce', Regs.writeCcr_of_ocpe hocpe'] at hstep
  rw [List.length_map] at hrun
  exact ⟨_, (run_add 1 hrun).trans (run_succ 0 hstep), by rw [State.answer_regs, hu], by rw [State.answer_rsp, hu]⟩

/-! ### Commands and CLK steps up to the boundary -/

/-- The configured block's pin is high exactly below the active compare value (R94). -/
theorem Regs.IsConfigured.pwmOut_iff {r : Regs} (h : r.IsConfigured) : r.pwmOut = true ↔ r.cnt < r.ccrAct := by
  simp [Regs.pwmOut, Regs.active, h.output, h.direction, h.mode, h.polarity]

/-- The last clock before the boundary: both counts have reached their limits. -/
theorem Regs.clocksToBoundary_eq_one {r : Regs} (h : r.clocksToBoundary = 1) : r.arrAct ≤ r.cnt ∧ r.psc ≤ r.pscCnt := by
  have hprod : (r.arrAct.toNat - r.cnt.toNat) * (r.psc.toNat + 1) = 0 := by
    unfold Regs.clocksToBoundary at h
    omega
  have hticks : r.arrAct.toNat - r.cnt.toNat = 0 := by simpa using hprod
  simp only [Regs.clocksToBoundary, BitVec.le_def] at h ⊢
  omega

/-- Before the boundary a CLK step of the running block moves the two counts only, one clock nearer to the boundary. -/
theorem Regs.IsConfigured.clk_before_boundary {r : Regs} (h : r.IsConfigured) (hcen : r.cen = true)
    (hfar : 1 < r.clocksToBoundary) :
    r.clk.ccrAct = r.ccrAct ∧ r.clk.clocksToBoundary + 1 = r.clocksToBoundary := by
  have hprange := BitVec.le_def.mp h.prescale_in_range
  obtain ⟨hpsc, hclk⟩ | ⟨hpsc, hclk⟩ := r.clk_running hcen
  · have hpscCnt : r.pscCnt.toNat = r.psc.toNat := Nat.le_antisymm hprange (BitVec.le_def.mp hpsc)
    obtain ⟨hcnt, -⟩ | ⟨hcnt, htick⟩ := ({ r with pscCnt := 0 } : Regs).tick_cases
    · have hcnt' : r.arrAct.toNat - r.cnt.toNat = 0 := Nat.sub_eq_zero_of_le (BitVec.le_def.mp hcnt)
      simp [Regs.clocksToBoundary, hcnt', hpscCnt] at hfar
    · have hsucc : (r.cnt + 1).toNat = r.cnt.toNat + 1 := by bv_omega
      have hticks : r.arrAct.toNat - r.cnt.toNat = r.arrAct.toNat - (r.cnt.toNat + 1) + 1 := by bv_omega
      have hzero : (0 : Half).toNat = 0 := rfl
      rw [hclk, htick]
      refine ⟨rfl, ?_⟩
      simp only [Regs.clocksToBoundary, hsucc, hticks, hpscCnt, Nat.succ_mul, hzero]
      omega
  · have hsucc : (r.pscCnt + 1).toNat = r.pscCnt.toNat + 1 := by bv_omega
    rw [hclk]
    refine ⟨rfl, ?_⟩
    simp only [Regs.clocksToBoundary, hsucc]
    bv_omega

/-- Registers `r` in the same period as `r0`, `k` clocks later, with nothing but SET_DUTY commands between. -/
structure Regs.LaterInPeriod (r0 : Regs) (k : Nat) (r : Regs) : Prop where
  configured : r.IsConfigured
  running : r.cen = true
  compare : r.ccrAct = r0.ccrAct
  reload : r.arrPre = r0.arrPre
  clocks : r.clocksToBoundary + k = r0.clocksToBoundary

theorem Regs.LaterInPeriod.refl {r : Regs} (h : r.IsConfigured) (hcen : r.cen = true) : r.LaterInPeriod 0 r :=
  ⟨h, hcen, rfl, rfl, rfl⟩

theorem Regs.LaterInPeriod.clk {r0 r : Regs} {k : Nat} (h : r0.LaterInPeriod k r) (hk : k + 1 < r0.clocksToBoundary) :
    r0.LaterInPeriod (k + 1) r.clk := by
  have hclocks := h.clocks
  obtain ⟨hact, hnear⟩ := h.configured.clk_before_boundary h.running (by omega)
  exact ⟨h.configured.clk, by rw [Regs.clk_cen, h.running], hact.trans h.compare, by rw [Regs.clk_arrPre, h.reload],
    by omega⟩

theorem Regs.LaterInPeriod.setDuty {r0 r : Regs} {k : Nat} (h : r0.LaterInPeriod k r) (d : Word32) :
    r0.LaterInPeriod k ((Event.issue (encode (.setDuty d))).effect r) := by
  rw [Event.effect_setDuty h.configured.output]
  exact ⟨h.configured.writeCcr d, by rw [Regs.writeCcr_cen, h.running],
    by rw [Regs.writeCcr_ccrAct, if_pos h.configured.compare_preload, h.compare], by rw [Regs.writeCcr_arrPre, h.reload],
    by simpa [Regs.clocksToBoundary] using h.clocks⟩

/-- SET_DUTY commands and CLK steps, too few of the latter for the boundary, stay in the period. -/
theorem Regs.LaterInPeriod.after {r0 r : Regs} {k : Nat} {es : List Event} (h : r0.LaterInPeriod k r)
    (hes : ∀ e ∈ es, e.IsDutyOrClk) (hk : k + es.count .clk < r0.clocksToBoundary) :
    r0.LaterInPeriod (k + es.count .clk) (r.after es) := by
  induction es generalizing r k with
  | nil => exact h
  | cons e es ih =>
    obtain ⟨he, hes'⟩ := List.forall_mem_cons.mp hes
    obtain rfl | ⟨d, rfl⟩ := he
    · rw [List.count_cons_self, Nat.add_comm (es.count _), ← Nat.add_assoc] at hk ⊢
      exact ih (h.clk (by omega)) hes' hk
    · rw [List.count_cons_of_ne (by simp)] at hk ⊢
      exact ih (h.setDuty d) hes' hk

/-- CLK steps do not write CCR_PRE. -/
theorem Regs.after_clks_ccrPre (m : Nat) (r : Regs) : (r.after (List.replicate m .clk)).ccrPre = r.ccrPre := by
  induction m generalizing r with
  | zero => rfl
  | succ m ih => rw [List.replicate_succ, Regs.after_cons, ih, Event.effect_clk, Regs.clk_ccrPre]

/-- The last SET_DUTY before a boundary, and `m` CLK steps after it. -/
def lastDuty (d : Word32) (m : Nat) : List Event := .issue (encode (.setDuty d)) :: List.replicate m .clk

@[simp] theorem length_lastDuty (d : Word32) (m : Nat) : (lastDuty d m).length = m + 1 := by
  simp [lastDuty]

@[simp] theorem count_clk_lastDuty (d : Word32) (m : Nat) : (lastDuty d m).count .clk = m := by
  simp [lastDuty]

theorem lastDuty_succ (d : Word32) (m : Nat) : lastDuty d (m + 1) = lastDuty d m ++ [.clk] := by
  simp [lastDuty, List.replicate_succ']

theorem isDutyOrClk_of_mem_lastDuty {d : Word32} {m : Nat} : ∀ e ∈ lastDuty d m, e.IsDutyOrClk :=
  List.forall_mem_cons.mpr ⟨.inr ⟨d, rfl⟩, fun _ he => .inl (List.eq_of_mem_replicate he)⟩

/-- The value of the last SET_DUTY waits in CCR_PRE through any CLK steps after it. -/
theorem Regs.LaterInPeriod.after_lastDuty_ccrPre {r0 r : Regs} {k : Nat} (h : r0.LaterInPeriod k r) (d : Word32)
    (m : Nat) : (r.after (lastDuty d m)).ccrPre = mapDuty d r0.arrPre := by
  rw [lastDuty, Regs.after_cons, Regs.after_clks_ccrPre, Event.effect_setDuty h.configured.output,
    Regs.writeCcr_ccrPre, h.reload]

/-- The boundary of a configured running block loads CCR_PRE and restarts the counter. -/
theorem Regs.LaterInPeriod.clk_at_boundary {r0 r : Regs} {k : Nat} (h : r0.LaterInPeriod k r)
    (hk : k + 1 = r0.clocksToBoundary) : r.clk.cnt = 0 ∧ r.clk.ccrAct = r.ccrPre := by
  have hclocks := h.clocks
  obtain ⟨hcnt, hpsc⟩ := Regs.clocksToBoundary_eq_one (r := r) (by omega)
  rw [Regs.clk_boundary h.running hpsc hcnt]
  exact ⟨rfl, rfl⟩

/-- A run up to before the boundary: a prefix of the commands and CLK steps before it. -/
theorem run_before_boundary {es rest : List Event} {s : State} (hl : s.Launched) (hconf : s.regs.IsConfigured)
    (hcen : s.regs.cen = true) (hes : ∀ e ∈ es, e.IsDutyOrClk) (hk : es.count .clk < s.regs.clocksToBoundary)
    (hs : s.schedule = es ++ rest) {j : Nat} (hj : j ≤ es.length) :
    ∃ t : State, core.run j s = .next t ∧ t.regs.ccrAct = s.regs.ccrAct ∧
      (t.regs.pwmOut = true ↔ t.regs.cnt < s.regs.ccrAct) := by
  rw [← List.take_append_drop j es, List.append_assoc] at hs
  obtain ⟨t, hrun, ht, -, -⟩ := run_scheduled _ hl hs
  rw [List.length_take_of_le hj] at hrun
  have hcount : (es.take j).count .clk ≤ es.count .clk := (List.take_sublist j es).count_le _
  have hlater : s.regs.LaterInPeriod _ t.regs :=
    ht ▸ (Regs.LaterInPeriod.refl hconf hcen).after (fun e he => hes e (List.mem_of_mem_take he)) (by omega)
  exact ⟨t, hrun, hlater.compare, hlater.compare ▸ hlater.configured.pwmOut_iff⟩

/-- A run through the boundary: its CLK step loads the CCR_PRE that the commands before it left. -/
theorem run_through_boundary {es : List Event} {s : State} (hl : s.Launched) (hconf : s.regs.IsConfigured)
    (hcen : s.regs.cen = true) (hes : ∀ e ∈ es, e.IsDutyOrClk) (hk : es.count .clk + 1 = s.regs.clocksToBoundary)
    (hs : s.schedule = es ++ [.clk]) :
    ∃ t : State, core.run (es.length + 1) s = .next t ∧ t.regs.IsConfigured ∧ t.regs.cnt = 0 ∧
      t.regs.ccrAct = (s.regs.after es).ccrPre := by
  obtain ⟨u, hrun, hu, hlu, hsu⟩ := run_scheduled es hl hs
  obtain ⟨t, hstep, ht, -, -⟩ := step_scheduled hlu hsu
  have hlater : s.regs.LaterInPeriod _ u.regs := hu ▸ (Regs.LaterInPeriod.refl hconf hcen).after hes (by omega)
  obtain ⟨hcnt, hact⟩ := hlater.clk_at_boundary (by omega)
  rw [Event.effect_clk] at ht
  exact ⟨t, (run_add 1 hrun).trans (run_succ 0 hstep), ht ▸ hlater.configured.clk, ht ▸ hcnt, by rw [ht, hact, hu]⟩

/-- Settles O36. Nothing but CCR_PRE takes a SET_DUTY's value before the boundary; the last command overwrites it, the
CLK steps after the command leave it there, and the boundary loads it. -/
theorem lastDutyBeforeTheBoundaryWins : Obligations.LastDutyBeforeTheBoundaryWins := by
  constructor
  · intro ds d s hl hcce hocpe hs
    obtain ⟨t, hrun, ht, hrsp⟩ := run_setDuties ds d hl hcce hocpe hs
    exact ⟨t, hrun, ht, hrsp, by simp [ht, Regs.pwmOut, Regs.active]⟩
  · intro es d m s hl hconf hcen hes hclocks hs
    have hs' : s.schedule = (es ++ lastDuty d m) ++ [.clk] := by
      rw [hs, List.append_assoc, ← lastDuty_succ, lastDuty]
    have hduty := List.forall_mem_append.mpr ⟨hes, isDutyOrClk_of_mem_lastDuty (d := d) (m := m)⟩
    have hcount : (es ++ lastDuty d m).count .clk = es.count .clk + m := by simp
    have hlen : (es ++ lastDuty d m).length = es.length + 1 + m := by
      rw [List.length_append, length_lastDuty]
      omega
    refine ⟨fun j hj => run_before_boundary hl hconf hcen hduty (by omega) hs' (by omega), ?_⟩
    obtain ⟨t, hrun, hconf', hcnt, hact⟩ := run_through_boundary hl hconf hcen hduty (by omega) hs'
    have hes' := (Regs.LaterInPeriod.refl hconf hcen).after hes (by omega)
    rw [Regs.after_append, hes'.after_lastDuty_ccrPre] at hact
    exact ⟨t, hlen ▸ hrun, hcnt, hact, by rw [hconf'.pwmOut_iff, hcnt, hact]⟩

end Sys2Proof.Machine
end

section
/-! PROOFS. What a command responds and writes does not depend on the CLK steps before it (spec/20_memory.md R43, R44). -/

namespace Sys2Proof.Machine

/-! ### What each check of CCE and the period decides -/

theorem Regs.configure_refused {p d : Word32} {r : Regs} (h : r.cce = true ∨ p.toNat = 0 ∨ 65536 < p.toNat) :
    r.configure p d = (r, ⟨.configError, 0⟩) := by
  obtain ⟨-, heff⟩ | ⟨hcce, hlo, hhi, -⟩ := r.configure_cases p d
  · exact heff
  · have hperiod := h.resolve_left (by simp [hcce])
    omega

theorem Regs.configure_accepted {p d : Word32} {r : Regs} (hcce : r.cce = false) (hlo : 1 ≤ p.toNat)
    (hhi : p.toNat ≤ 65536) :
    r.configure p d = ((configureSteps p d r).1, ⟨.ok, (configureSteps p d r).2⟩) := by
  obtain ⟨hbad, -⟩ | ⟨-, -, -, heff⟩ := r.configure_cases p d
  · have hperiod := hbad.resolve_left (by simp [hcce])
    omega
  · exact heff

theorem Regs.setDuty_of_unconfigured {r : Regs} (h : r.cce = false) (d : Word32) :
    r.setDuty d = (r, ⟨.configError, 0⟩) := by
  simp [Regs.setDuty, Regs.configured, h]

theorem Regs.start_of_unconfigured {r : Regs} (h : r.cce = false) : r.start = (r, ⟨.configError, 0⟩) := by
  simp [Regs.start, Regs.configured, h]

theorem Regs.start_of_configured {r : Regs} (h : r.cce = true) : r.start = ({ r with cen := true }, ⟨.ok, 0⟩) := by
  simp [Regs.start, Regs.configured, h]

/-! ### Two blocks that differ in the timer agent's registers only -/

/-- Registers that differ at most in the four that the timer agent writes (R30). -/
def Regs.SameButTimer (r q : Regs) : Prop :=
  ∃ cnt pscCnt arrAct ccrAct, q = { r with cnt := cnt, pscCnt := pscCnt, arrAct := arrAct, ccrAct := ccrAct }

theorem Regs.SameButTimer.clkN (n : Nat) (r : Regs) : r.SameButTimer (Regs.clkN n r) :=
  timerAgentWritesItsRegistersOnly n r

theorem Regs.SameButTimer.cce {r q : Regs} (h : r.SameButTimer q) : q.cce = r.cce := by
  obtain ⟨cnt, pscCnt, arrAct, ccrAct, rfl⟩ := h
  rfl

theorem Regs.SameButTimer.arrPre {r q : Regs} (h : r.SameButTimer q) : q.arrPre = r.arrPre := by
  obtain ⟨cnt, pscCnt, arrAct, ccrAct, rfl⟩ := h
  rfl

theorem Regs.SameButTimer.writeCcr {r q : Regs} (h : r.SameButTimer q) (v : Half) :
    (r.writeCcr v).SameButTimer (q.writeCcr v) := by
  obtain ⟨cnt, pscCnt, arrAct, ccrAct, rfl⟩ := h
  cases hocpe : r.ocpe with
  | false => exact ⟨cnt, pscCnt, arrAct, v, by simp [Regs.writeCcr, hocpe]⟩
  | true => exact ⟨cnt, pscCnt, arrAct, ccrAct, by simp [Regs.writeCcr, hocpe]⟩

theorem Regs.SameButTimer.run {r q : Regs} (h : r.SameButTimer q) :
    ({ r with cen := true } : Regs).SameButTimer { q with cen := true } := by
  obtain ⟨cnt, pscCnt, arrAct, ccrAct, rfl⟩ := h
  exact ⟨cnt, pscCnt, arrAct, ccrAct, rfl⟩

/-- The registers and the compare value after the ten steps of CONFIGURE (R67): of the old registers only CCR_PRE, CEN
and the two counts are still seen. -/
theorem configureSteps_eq (p d : Word32) (r : Regs) :
    configureSteps p d r =
      (⟨Config.pscFixed, autoReloadOf p, autoReloadOf p, mapDuty d (autoReloadOf p), r.ccrPre, .pwm1, true, .activeHigh,
        true, true, true, r.cen, r.cnt, r.pscCnt⟩, mapDuty d (autoReloadOf p)) := by
  cases harpe : r.arpe with
  | false => simp [configureSteps, Regs.writeArr, Regs.writeCcr, Regs.loadActive, harpe]
  | true => simp [configureSteps, Regs.writeArr, Regs.writeCcr, Regs.loadActive, harpe]

theorem Regs.SameButTimer.configureSteps {r q : Regs} (h : r.SameButTimer q) (p d : Word32) :
    (configureSteps p d r).1.SameButTimer (configureSteps p d q).1 := by
  obtain ⟨cnt, pscCnt, arrAct, ccrAct, rfl⟩ := h
  rw [configureSteps_eq, configureSteps_eq]
  exact ⟨cnt, pscCnt, _, _, rfl⟩

/-- A command on two such blocks responds the same and leaves two such blocks. -/
theorem Regs.SameButTimer.commandEffect {r q : Regs} (h : r.SameButTimer q) (i : Instr) :
    (commandEffect i q).2 = (commandEffect i r).2 ∧ (commandEffect i r).1.SameButTimer (commandEffect i q).1 := by
  cases i with
  | configure p d =>
    dsimp only [Machine.commandEffect]
    obtain ⟨hbad, hr⟩ | ⟨hcce, hlo, hhi, hr⟩ := r.configure_cases p d
    · rw [hr, Regs.configure_refused (h.cce ▸ hbad)]
      exact ⟨rfl, h⟩
    · rw [hr, Regs.configure_accepted (h.cce.trans hcce) hlo hhi]
      exact ⟨by rw [configureSteps_eq, configureSteps_eq], h.configureSteps p d⟩
  | setDuty d =>
    dsimp only [Machine.commandEffect]
    obtain ⟨hcce, hr⟩ | ⟨hcce, hr⟩ := r.setDuty_cases d
    · rw [hr, Regs.setDuty_of_unconfigured (h.cce.trans hcce)]
      exact ⟨rfl, h⟩
    · rw [hr, Regs.setDuty_of_configured (h.cce.trans hcce), h.arrPre]
      exact ⟨rfl, h.writeCcr _⟩
  | start =>
    dsimp only [Machine.commandEffect]
    obtain ⟨hcce, hr⟩ | ⟨hcce, hr⟩ := r.start_cases
    · rw [hr, Regs.start_of_unconfigured (h.cce.trans hcce)]
      exact ⟨rfl, h⟩
    · rw [hr, Regs.start_of_configured (h.cce.trans hcce)]
      exact ⟨rfl, h.run⟩

/-- Settles O45: CLK steps change the timer agent's registers only, and no command's response or other
writes depend on those. -/
theorem commandResultsDoNotDependOnTheSchedule : Obligations.CommandResultsDoNotDependOnTheSchedule := by
  intro i n s t u ht hu
  rw [exec_eq, Host.Outcome.next.injEq] at ht hu
  subst ht hu
  obtain ⟨hrsp, cnt, pscCnt, arrAct, ccrAct, hregs⟩ := (Regs.SameButTimer.clkN n s.regs).commandEffect i
  simp [hrsp, hregs]

end Sys2Proof.Machine
end

section
/-! PROOFS. The statements about opcodes and operand fields (spec/30_encoding.md sections 1 and 2), and about the response
to an issued word (section 4): a word is its fields packed, a reserved opcode is rejected, and a launched state steps. -/

namespace Sys2Proof

/-! ### Words as packed fields -/

/-- The three fields are the whole word (R51). -/
theorem packCommand_fields (w : CmdWord) : packCommand (opField w) (periodField w) (dutyField w) = w := by
  refine BitVec.eq_of_getLsbD_eq fun i hi => ?_
  rw [getLsbD_packCommand, opField, periodField, dutyField]
  split
  · simp [*]
  · split
    · simp [show i - 32 < 32 by omega, show 32 + (i - 32) = i by omega]
    · simp [show i - 64 < 8 by omega, show 64 + (i - 64) = i by omega]

theorem packCommand_and (op op' : Byte) (p p' d d' : Word32) :
    packCommand op p d &&& packCommand op' p' d' = packCommand (op &&& op') (p &&& p') (d &&& d') := by
  unfold packCommand
  rw [← BitVec.and_append, ← BitVec.and_append]

/-- Reading a word under a mask is reading each of its fields under the mask's. -/
theorem and_packCommand (w : CmdWord) (op : Byte) (p d : Word32) :
    w &&& packCommand op p d = packCommand (opField w &&& op) (periodField w &&& p) (dutyField w &&& d) := by
  rw [← packCommand_and, packCommand_fields]

theorem and_usedBits_configure (w : CmdWord) (p d : Word32) :
    w &&& (Instr.configure p d).usedBits = packCommand (opField w) (periodField w) (dutyField w) := by
  have hmask : (Instr.configure p d).usedBits = packCommand (.allOnes 8) (.allOnes 32) (.allOnes 32) := rfl
  rw [hmask, and_packCommand, BitVec.and_allOnes, BitVec.and_allOnes, BitVec.and_allOnes]

theorem and_usedBits_setDuty (w : CmdWord) (d : Word32) :
    w &&& (Instr.setDuty d).usedBits = packCommand (opField w) 0#32 (dutyField w) := by
  have hmask : (Instr.setDuty d).usedBits = packCommand (.allOnes 8) 0#32 (.allOnes 32) := rfl
  rw [hmask, and_packCommand, BitVec.and_allOnes, BitVec.and_allOnes, BitVec.and_zero]

theorem and_usedBits_start (w : CmdWord) : w &&& Instr.start.usedBits = packCommand (opField w) 0#32 0#32 := by
  have hmask : Instr.start.usedBits = packCommand (.allOnes 8) 0#32 0#32 := rfl
  rw [hmask, and_packCommand, BitVec.and_allOnes, BitVec.and_zero, BitVec.and_zero]

/-- Settles O15, by the opcodes that decode: the fields that the command reads are those the encoder packs. -/
theorem encodeUndoesDecodeOnUsedBits : Obligations.EncodeUndoesDecodeOnUsedBits := by
  intro w i hi
  obtain ⟨hop, hd⟩ | ⟨hop, hd⟩ | ⟨hop, hd⟩ | ⟨-, -, -, hd⟩ := decode_cases w
  · obtain rfl := Except.ok.inj (hd.symm.trans hi)
    rw [and_usedBits_configure, hop]
    rfl
  · obtain rfl := Except.ok.inj (hd.symm.trans hi)
    rw [and_usedBits_setDuty, hop]
    rfl
  · obtain rfl := Except.ok.inj (hd.symm.trans hi)
    rw [and_usedBits_start, hop]
    rfl
  · simp [hd] at hi

/-! ### Opcodes -/

/-- A reserved opcode is none of the three commands' (R52, R56). -/
theorem decode_reserved {w : CmdWord} (h : opField w = 0x00 ∨ 0x04 ≤ opField w) :
    decode w = .error (.reservedOpcode (opField w)) := by
  obtain ⟨hop, -⟩ | ⟨hop, -⟩ | ⟨hop, -⟩ | ⟨-, -, -, hd⟩ := decode_cases w
  · simp [hop] at h
  · simp [hop] at h
  · simp [hop] at h
  · exact hd

/-- Settles O16, by the decoder's three tests and `decode_reserved`. -/
theorem decoderReadsOpcodeAlone : Obligations.DecoderReadsOpcodeAlone := by
  intro w
  refine ⟨fun hop => ?_, fun hop => ?_, fun hop => ?_, decode_reserved⟩
  all_goals simp [decode, hop]

/-- Settles O17, by the decoder on packed words and the fields of what the encoder packs. -/
theorem ignoredFieldsHaveNoEffect : Obligations.IgnoredFieldsHaveNoEffect :=
  ⟨fun p d => ⟨decode_packCommand_setDuty p d, decode_packCommand_start p d⟩,
    fun _ => periodField_packCommand .., periodField_packCommand .., dutyField_packCommand ..⟩

end Sys2Proof

namespace Sys2Proof.Machine

/-! ### Responses -/

/-- What one step of either agent responds: a command word has a response, and no other step has one (R57, R60). -/
def Event.response : Event → Regs → Option Response
  | .issue w, r => some (wordEffect w r).2
  | .clk, _ => none
  | .reset _, _ => none

/-- A launched state has a step: the next event acts on the registers and responds, and leaves the schedule. -/
theorem step_launched {s : State} (hl : s.Launched) :
    step s = .next
      ⟨s.nextEvent.effect s.regs, s.nextEvent.response s.regs, s.schedule.tail, s.premises⟩ := by
  simp only [step_eq_resume_stepRegs, stepRegs, hl.not_broken]
  cases s.nextEvent <;> rfl

theorem Response.extractLsb'_word_status (r : Response) : r.word.extractLsb' 16 2 = r.status.code :=
  BitVec.extractLsb'_append_eq_left

theorem Response.extractLsb'_word_value (r : Response) : r.word.extractLsb' 0 16 = r.value :=
  BitVec.extractLsb'_append_eq_right

/-- A step that is not the issue of a word responds nothing. -/
theorem State.nextEvent_response_eq_none {s : State} (h : ∀ w rest, s.schedule ≠ .issue w :: rest) :
    s.nextEvent.response s.regs = none := by
  unfold State.nextEvent
  cases hs : s.schedule with
  | nil => rfl
  | cons e rest =>
    cases e with
    | issue w => exact absurd hs (h w rest)
    | clk => rfl
    | reset presented => rfl

/-- Settles O8, by what the next event of a launched state responds. -/
theorem everyIssuedCommandGetsOneResponse : Obligations.EveryIssuedCommandGetsOneResponse := by
  intro s hl
  refine ⟨_, step_launched hl, ?_, State.nextEvent_response_eq_none⟩
  rintro ⟨w, rest, hs⟩
  have hrsp : s.nextEvent.response s.regs = some (wordEffect w s.regs).2 := by
    simp [State.nextEvent, hs, Event.response]
  exact ⟨_, hrsp, congrArg (Option.map Response.word) hrsp, Response.extractLsb'_word_status _,
    Response.extractLsb'_word_value _⟩

/-- Settles O9, by the three statuses. -/
theorem responseStatusCodes : Obligations.ResponseStatusCodes := by
  refine ⟨rfl, rfl, rfl, fun st => ?_⟩
  cases st <;> decide

/-- A word with a reserved opcode is answered ILLEGAL_CMD (R56). -/
theorem wordEffect_reserved {w : CmdWord} (h : opField w = 0x00 ∨ 0x04 ≤ opField w) (r : Regs) :
    wordEffect w r = (r, ⟨.illegalCmd, 0⟩) := by
  simp [wordEffect, decode_reserved h]

/-- Settles O13, by the effect of a word that does not decode. -/
theorem reservedOpcodesAreIllegal : Obligations.ReservedOpcodesAreIllegal := by
  refine ⟨fun s w rest hl hs hop => ?_, by decide, by decide⟩
  rw [step_launched hl]
  simp [State.nextEvent, hs, Event.effect, Event.response, wordEffect_reserved hop]

end Sys2Proof.Machine
end

section
/-! PROOFS. The conversion of a decimal duty literal to binary32 (spec/30_encoding.md R63) rounds to nearest, ties to
even. A finite magnitude is a whole number of units, 2^-149, so nearness is a comparison of integers: among the multiples
of the spacing at the literal's value, `roundHalfEven` is nearest; a finite number that is no such multiple is below the
whole binade of the value. -/

namespace Sys2Proof.Machine

/-! ### Finite patterns as whole numbers of units -/

/-- The value of a magnitude pattern (the sign bit taken off) in units of 2^-149. -/
def f32Units (p : Nat) : Nat :=
  if p / 2 ^ 23 = 0 then p % 2 ^ 23 else (2 ^ 23 + p % 2 ^ 23) * 2 ^ (p / 2 ^ 23 - 1)

/-- A significand of up to 24 bits over the spacing `2 ^ k`; at `2 ^ 24` the carry is into the exponent field. -/
theorem f32Units_eq {k m : Nat} (hlo : k = 0 ∨ 2 ^ 23 ≤ m) (hhi : m ≤ 2 ^ 24) :
    f32Units (k * 2 ^ 23 + m) = m * 2 ^ k := by
  by_cases hsub : m < 2 ^ 23
  · obtain rfl : k = 0 := by omega
    simp only [f32Units, Nat.zero_mul, Nat.zero_add, Nat.div_eq_of_lt hsub, Nat.mod_eq_of_lt hsub, if_true, pow_zero,
      Nat.mul_one]
  · obtain rfl | hlt := hhi.eq_or_lt
    · have hdiv : (k * 2 ^ 23 + 2 ^ 24) / 2 ^ 23 = k + 1 + 1 := by omega
      have hmod : (k * 2 ^ 23 + 2 ^ 24) % 2 ^ 23 = 0 := by omega
      simp only [f32Units, hdiv, hmod, Nat.succ_ne_zero, if_false, Nat.add_sub_cancel]
      ring
    · have hdiv : (k * 2 ^ 23 + m) / 2 ^ 23 = k + 1 := by omega
      have hmod : 2 ^ 23 + (k * 2 ^ 23 + m) % 2 ^ 23 = m := by omega
      simp only [f32Units, hdiv, hmod, Nat.succ_ne_zero, if_false, Nat.add_sub_cancel]

/-- Every magnitude pattern is a significand over a spacing. -/
theorem exists_significand (p : Nat) :
    ∃ k m, p = k * 2 ^ 23 + m ∧ (k = 0 ∨ 2 ^ 23 ≤ m) ∧ m < 2 ^ 24 := by
  by_cases hsub : p < 2 ^ 23
  · exact ⟨0, p, by omega, .inl rfl, by omega⟩
  · exact ⟨p / 2 ^ 23 - 1, 2 ^ 23 + p % 2 ^ 23, by omega, .inr (by omega), by omega⟩

theorem f32Units_strictMono : StrictMono f32Units := by
  refine strictMono_nat_of_lt_succ fun p => ?_
  obtain ⟨k, m, rfl, hlo, hhi⟩ := exists_significand p
  rw [f32Units_eq hlo hhi.le, Nat.add_assoc, f32Units_eq (hlo.imp_right Nat.le_succ_of_le) hhi]
  exact Nat.mul_lt_mul_of_pos_right (Nat.lt_succ_self m) (Nat.two_pow_pos k)

/-- A finite number that is no multiple of the spacing `2 ^ k` is below every number that has this spacing. -/
theorem dvd_f32Units_or_lt (k p : Nat) : 2 ^ k ∣ f32Units p ∨ (k ≠ 0 ∧ f32Units p < 2 ^ 23 * 2 ^ k) := by
  obtain ⟨j, m, rfl, hlo, hhi⟩ := exists_significand p
  rw [f32Units_eq hlo hhi.le]
  by_cases hkj : k ≤ j
  · exact .inl ((pow_dvd_pow 2 hkj).mul_left m)
  · refine .inr ⟨by omega, ?_⟩
    calc m * 2 ^ j < 2 ^ 24 * 2 ^ j := Nat.mul_lt_mul_of_pos_right hhi (Nat.two_pow_pos j)
      _ = 2 ^ 23 * 2 ^ (j + 1) := by ring
      _ ≤ 2 ^ 23 * 2 ^ k := Nat.mul_le_mul_left _ (Nat.pow_le_pow_right two_pos (by omega))

/-! ### Rounding a quotient to the nearest integer -/

/-- What `roundHalfEven` can answer: the quotient when the remainder is at most half, or the next integer when it is at
least half; on a tie, the even one. -/
theorem roundHalfEven_cases (n d : Nat) :
    (roundHalfEven n d = n / d ∧ 2 * (n % d) ≤ d ∧ (2 * (n % d) = d → n / d % 2 = 0)) ∨
    (roundHalfEven n d = n / d + 1 ∧ d ≤ 2 * (n % d) ∧ (2 * (n % d) = d → (n / d + 1) % 2 = 0)) := by
  unfold roundHalfEven
  split
  · exact .inl ⟨rfl, by omega, by omega⟩
  · exact .inr ⟨rfl, by omega, by omega⟩

theorem le_roundHalfEven {n d j : Nat} (hd : 0 < d) (h : j * d ≤ n) : j ≤ roundHalfEven n d := by
  have hj : j ≤ n / d := (Nat.le_div_iff_mul_le hd).mpr h
  obtain ⟨hm, -, -⟩ | ⟨hm, -, -⟩ := roundHalfEven_cases n d <;> omega

theorem roundHalfEven_le {n d j : Nat} (hd : 0 < d) (h : n < j * d) : roundHalfEven n d ≤ j := by
  have hj : n / d < j := (Nat.div_lt_iff_lt_mul hd).mpr h
  obtain ⟨hm, -, -⟩ | ⟨hm, -, -⟩ := roundHalfEven_cases n d <;> omega

/-- `roundHalfEven` errs by at most half, and by exactly half only to an even number. -/
theorem roundHalfEven_half (n d : Nat) (hd : 0 < d) :
    2 * |(roundHalfEven n d * d : ℤ) - n| ≤ d ∧
    (2 * |(roundHalfEven n d * d : ℤ) - n| = d → roundHalfEven n d % 2 = 0) := by
  have hn : n / d * d + n % d = n := Nat.div_add_mod' n d
  have hr : n % d < d := Nat.mod_lt n hd
  obtain ⟨hm, hhalf, heven⟩ | ⟨hm, hhalf, heven⟩ := roundHalfEven_cases n d
  · have herr : |((n / d : ℕ) * d : ℤ) - n| = (n % d : ℕ) := by rw [abs_eq_max_neg]; zify at hn ⊢; omega
    rw [hm, herr]
    exact ⟨mod_cast hhalf, mod_cast heven⟩
  · have herr : |((n / d + 1 : ℕ) * d : ℤ) - n| = (d - n % d : ℕ) := by
      rw [abs_eq_max_neg]
      push_cast [hr.le]
      rw [add_mul]
      zify at hn hr
      omega
    rw [hm, herr]
    exact ⟨by omega, fun htie => heven (by omega)⟩

/-- No multiple of `d` is nearer to `n` than that of `roundHalfEven`, and where another is as near, it is even. -/
theorem roundHalfEven_nearest (n j : Nat) {d : Nat} (hd : 0 < d) :
    |(roundHalfEven n d * d : ℤ) - n| ≤ |(j * d : ℤ) - n| ∧
    (|(roundHalfEven n d * d : ℤ) - n| = |(j * d : ℤ) - n| → j = roundHalfEven n d ∨ roundHalfEven n d % 2 = 0) := by
  obtain ⟨hhalf, heven⟩ := roundHalfEven_half n d hd
  obtain rfl | hj := eq_or_ne j (roundHalfEven n d)
  · exact ⟨le_rfl, fun _ => .inl rfl⟩
  · have hapart : (d : ℤ) ≤ |(j * d : ℤ) - roundHalfEven n d * d| := by
      rw [← sub_mul, abs_mul, abs_of_pos (Int.natCast_pos.mpr hd)]
      exact le_mul_of_one_le_left (Int.natCast_nonneg d) (Int.one_le_abs (by omega))
    have htri := abs_sub_le (j * d : ℤ) n (roundHalfEven n d * d)
    rw [abs_sub_comm (n : ℤ)] at htri
    exact ⟨by omega, fun htie => .inr (heven (by omega))⟩

/-! ### The rounded magnitude -/

/-- The value is in the binade of the spacing: below `2 ^ 24` spacings, and at least `2 ^ 23` of them unless the spacing
is the smallest. -/
theorem f32Spacing_spec (n : Nat) {d : Nat} (hd : 0 < d) :
    (f32Spacing n d = 0 ∨ 2 ^ 23 * (d * 2 ^ f32Spacing n d) ≤ n * 2 ^ 149) ∧
    n * 2 ^ 149 < 2 ^ 24 * (d * 2 ^ f32Spacing n d) := by
  set q := n * 2 ^ 149 / d
  have hk : f32Spacing n d = q.log2 - 23 := rfl
  constructor
  · refine or_iff_not_imp_left.mpr fun hne => ?_
    have hlog : 23 + f32Spacing n d = q.log2 := by omega
    have hq0 : q ≠ 0 := fun h0 => hne (by simp [hk, h0])
    have hle : 2 ^ 23 * 2 ^ f32Spacing n d ≤ q := by rw [← pow_add, hlog]; exact Nat.log2_self_le hq0
    calc 2 ^ 23 * (d * 2 ^ f32Spacing n d) = 2 ^ 23 * 2 ^ f32Spacing n d * d := by ring
      _ ≤ n * 2 ^ 149 := (Nat.le_div_iff_mul_le hd).mp hle
  · have hlt : q < 2 ^ 24 * 2 ^ f32Spacing n d := by
      rw [← pow_add]
      exact Nat.lt_log2_self.trans_le (Nat.pow_le_pow_right two_pos (by omega))
    calc n * 2 ^ 149 < 2 ^ 24 * 2 ^ f32Spacing n d * d := (Nat.div_lt_iff_lt_mul hd).mp hlt
      _ = 2 ^ 24 * (d * 2 ^ f32Spacing n d) := by ring

theorem roundToF32_le (n d : Nat) : roundToF32 n d ≤ 0x7F800000 := Nat.min_le_right ..

/-- A finite rounded magnitude is the rounded count of spacings, over the spacing. -/
theorem f32Units_roundToF32 {n d : Nat} (hd : 0 < d) (hfin : roundToF32 n d < 0x7F800000) :
    roundToF32 n d % 2 = roundHalfEven (n * 2 ^ 149) (d * 2 ^ f32Spacing n d) % 2 ∧
    f32Units (roundToF32 n d) =
      roundHalfEven (n * 2 ^ 149) (d * 2 ^ f32Spacing n d) * 2 ^ f32Spacing n d := by
  have hpos : 0 < d * 2 ^ f32Spacing n d := Nat.mul_pos hd (Nat.two_pow_pos _)
  obtain ⟨hlo, hhi⟩ := f32Spacing_spec n hd
  have hr : roundToF32 n d =
      f32Spacing n d * 2 ^ 23 + roundHalfEven (n * 2 ^ 149) (d * 2 ^ f32Spacing n d) :=
    Nat.min_eq_left (by unfold roundToF32 at hfin; omega)
  rw [hr]
  exact ⟨by omega, f32Units_eq (hlo.imp_right (le_roundHalfEven hpos)) (roundHalfEven_le hpos hhi)⟩

/-- How far a magnitude pattern is from `n / d`, in units of 2^-149 over the denominator. -/
def unitsApart (n d p : Nat) : ℤ := |(f32Units p * d : ℤ) - n * 2 ^ 149|

/-- `j` spacings of `2 ^ k` units are as far from `n / d` as `j` times the denominator over the spacing is from the
numerator. -/
theorem unitsApart_of_spacings {n d k p j : Nat} (h : f32Units p = j * 2 ^ k) :
    unitsApart n d p = |(j * (d * 2 ^ k : ℕ) : ℤ) - (n * 2 ^ 149 : ℕ)| := by
  unfold unitsApart
  rw [h]
  congr 1
  push_cast
  ring

/-- No finite magnitude is nearer to the value than the rounded one, and where another is as near,
the rounded one is even. -/
theorem roundToF32_nearest (n p : Nat) {d : Nat} (hd : 0 < d) (hfin : roundToF32 n d < 0x7F800000) :
    unitsApart n d (roundToF32 n d) ≤ unitsApart n d p ∧
    (unitsApart n d (roundToF32 n d) = unitsApart n d p → p = roundToF32 n d ∨ roundToF32 n d % 2 = 0) := by
  have hpos : 0 < d * 2 ^ f32Spacing n d := Nat.mul_pos hd (Nat.two_pow_pos _)
  obtain ⟨hparity, hunits⟩ := f32Units_roundToF32 hd hfin
  set k := f32Spacing n d
  set m := roundHalfEven (n * 2 ^ 149) (d * 2 ^ k)
  rw [unitsApart_of_spacings hunits, hparity]
  obtain ⟨j, hj⟩ | ⟨hk0, hlt⟩ := dvd_f32Units_or_lt k p
  · rw [Nat.mul_comm] at hj
    rw [unitsApart_of_spacings hj]
    obtain ⟨hle, heven⟩ := roundHalfEven_nearest (n * 2 ^ 149) j hpos
    refine ⟨hle, fun htie => (heven htie).imp_left fun hjm => ?_⟩
    exact f32Units_strictMono.injective (by rw [hj, hunits, hjm])
  · obtain ⟨hle, -⟩ := roundHalfEven_nearest (n * 2 ^ 149) (2 ^ 23) hpos
    have hbinade : 2 ^ 23 * (d * 2 ^ k) ≤ n * 2 ^ 149 := (f32Spacing_spec n hd).1.resolve_left hk0
    have hbelow : f32Units p * d < 2 ^ 23 * (d * 2 ^ k) := by
      calc f32Units p * d < 2 ^ 23 * 2 ^ k * d := Nat.mul_lt_mul_of_pos_right hlt hd
        _ = 2 ^ 23 * (d * 2 ^ k) := by ring
    have hstrict : |(m * (d * 2 ^ k : ℕ) : ℤ) - (n * 2 ^ 149 : ℕ)| < unitsApart n d p := by
      refine hle.trans_lt ?_
      unfold unitsApart
      zify at hbinade hbelow ⊢
      rw [abs_of_nonpos (by linarith), abs_of_neg (by linarith)]
      linarith
    exact ⟨hstrict.le, fun htie => absurd htie hstrict.ne⟩

/-! ### Signed patterns -/

/-- A pattern without its sign bit. -/
def f32Magnitude (b : Word32) : Nat := b.toNat % 2 ^ 31

/-- The value of a finite magnitude pattern. -/
def magnitudeValue (p : Nat) : Rat := (f32Units p : Rat) / 2 ^ 149

theorem magnitudeValue_nonneg (p : Nat) : 0 ≤ magnitudeValue p := by
  unfold magnitudeValue
  positivity

theorem f32Sign_eq (b : Word32) : f32Sign b = decide (2 ^ 31 ≤ b.toNat) :=
  (BitVec.msb_eq_getLsbD_last b).symm.trans (BitVec.msb_eq_decide b)

/-- A finite pattern is below the infinity of its sign, and its value is its units with its sign (R11). -/
theorem f32val_eq_fin {b : Word32} {x : Rat} (h : f32val b = some (.fin x)) :
    f32Magnitude b < 0x7F800000 ∧
    x = applySign (f32Sign b) (magnitudeValue (f32Magnitude b)) := by
  have hexp : f32Exp b = f32Magnitude b / 2 ^ 23 := by rw [f32Exp_eq, f32Magnitude]; omega
  have hfrac : f32Frac b = f32Magnitude b % 2 ^ 23 := by rw [f32Frac_eq, f32Magnitude]; omega
  have hmag : f32Magnitude b < 2 ^ 31 := Nat.mod_lt _ (by decide)
  unfold f32val at h
  split at h
  · split_ifs at h <;> simp at h
  · refine ⟨by omega, ?_⟩
    split at h
    · obtain rfl := ExtRat.fin.inj (Option.some.inj h)
      rw [magnitudeValue, f32Units, if_pos (by omega), hfrac]
    · obtain rfl := ExtRat.fin.inj (Option.some.inj h)
      obtain ⟨e, he⟩ := Nat.exists_eq_add_one_of_ne_zero ‹f32Exp b ≠ 0›
      rw [magnitudeValue, f32Units, if_neg (by omega), ← hexp, ← hfrac, he, Nat.add_sub_cancel]
      congr 1
      push_cast
      ring

/-- A pattern is its sign over its magnitude. -/
theorem eq_of_f32Sign_of_f32Magnitude {b c : Word32} (hs : f32Sign b = f32Sign c)
    (hm : f32Magnitude b = f32Magnitude c) : b = c := by
  rw [f32Sign_eq, f32Sign_eq, decide_eq_decide] at hs
  unfold f32Magnitude at hm
  refine BitVec.eq_of_toNat_eq ?_
  have hb := b.isLt
  have hc := c.isLt
  omega

/-- The low bit of a pattern is its magnitude's. -/
theorem getLsbD_zero_eq_false {b : Word32} (h : f32Magnitude b % 2 = 0) : b.getLsbD 0 = false := by
  have hbit : b.toNat % 2 = 0 := by unfold f32Magnitude at h; omega
  simpa [BitVec.getLsbD] using hbit

/-- A decimal literal's sign bit is added over its rounded magnitude. -/
theorem toNat_assemble_real (negative : Bool) (n decimals : Nat) :
    (DutyLit.real negative n decimals).assemble.toNat =
      (if negative then 2 ^ 31 else 0) + roundToF32 n (10 ^ decimals) := by
  have hle := roundToF32_le n (10 ^ decimals)
  rw [DutyLit.assemble, BitVec.toNat_ofNat]
  split <;> omega

theorem f32Magnitude_assemble_real (negative : Bool) (n decimals : Nat) :
    f32Magnitude (DutyLit.real negative n decimals).assemble = roundToF32 n (10 ^ decimals) := by
  have hle := roundToF32_le n (10 ^ decimals)
  rw [f32Magnitude, toNat_assemble_real]
  split <;> omega

theorem f32Sign_assemble_real (negative : Bool) (n decimals : Nat) :
    f32Sign (DutyLit.real negative n decimals).assemble = negative := by
  have hle := roundToF32_le n (10 ^ decimals)
  rw [f32Sign_eq, toNat_assemble_real]
  cases negative with
  | false => exact decide_eq_false (by simp; omega)
  | true => exact decide_eq_true (by simp)

/-- The literal with a minus sign is the one without it, with the sign bit set. -/
theorem assemble_real_negative (n decimals : Nat) :
    (DutyLit.real true n decimals).assemble = 0x80000000 ||| (DutyLit.real false n decimals).assemble := by
  have hle := roundToF32_le n (10 ^ decimals)
  refine BitVec.eq_of_toNat_eq ?_
  rw [BitVec.toNat_or, toNat_assemble_real, toNat_assemble_real]
  have h := Nat.two_pow_add_eq_or_of_lt (i := 31) (b := roundToF32 n (10 ^ decimals)) (by omega) 1
  simpa using h

/-! ### Nearness of values -/

/-- Two values are as far apart as their magnitudes when their signs agree, and else by the sum of their magnitudes. -/
theorem abs_applySign_sub (s t : Bool) {x v : Rat} (hx : 0 ≤ x) (hv : 0 ≤ v) :
    |applySign s x - applySign t v| = if s = t then |x - v| else x + v := by
  have hsum : |x + v| = x + v := abs_of_nonneg (add_nonneg hx hv)
  cases s <;> cases t
  · rfl
  · simp [applySign, hsum]
  · have hneg : -x - v = -(x + v) := by ring
    simp only [applySign, hneg, abs_neg, hsum, if_true, Bool.false_eq_true, Bool.true_eq_false, if_false]
  · simp only [applySign, neg_sub_neg, abs_sub_comm v x, if_true]

/-- The distance of a finite magnitude from `n / d`, counted in units over the denominator. -/
theorem abs_magnitudeValue_sub (n p : Nat) {d : Nat} (hd : 0 < d) :
    |magnitudeValue p - n / d| = (unitsApart n d p : Rat) / (2 ^ 149 * d) := by
  have hd' : (0 : Rat) < d := Nat.cast_pos.mpr hd
  rw [magnitudeValue, unitsApart, div_sub_div _ _ (by positivity) hd'.ne', abs_div,
    abs_of_pos (by positivity : (0 : Rat) < 2 ^ 149 * d), mul_comm (2 ^ 149 : Rat) n]
  simp only [Int.cast_abs, Int.cast_sub, Int.cast_mul, Int.cast_pow, Int.cast_natCast, Int.cast_ofNat]

/-- `roundToF32_nearest` over the values. -/
theorem magnitudeValue_roundToF32_nearest (n p : Nat) {d : Nat} (hd : 0 < d) (hfin : roundToF32 n d < 0x7F800000) :
    |magnitudeValue (roundToF32 n d) - n / d| ≤ |magnitudeValue p - n / d| ∧
    (|magnitudeValue (roundToF32 n d) - n / d| = |magnitudeValue p - n / d| →
      p = roundToF32 n d ∨ roundToF32 n d % 2 = 0) := by
  have hpos : (0 : Rat) < 2 ^ 149 * d := by positivity
  obtain ⟨hle, heven⟩ := roundToF32_nearest n p hd hfin
  rw [abs_magnitudeValue_sub n _ hd, abs_magnitudeValue_sub n p hd, div_le_div_iff_of_pos_right hpos,
    div_left_inj' hpos.ne']
  exact ⟨mod_cast hle, fun htie => heven (mod_cast htie)⟩

/-- A number of the other sign is no nearer than 0, and only as near if it is 0, which has an even pattern. -/
theorem magnitudeValue_roundToF32_nearest_across_zero (n p : Nat) {d : Nat} (hd : 0 < d)
    (hfin : roundToF32 n d < 0x7F800000) :
    |magnitudeValue (roundToF32 n d) - n / d| ≤ magnitudeValue p + n / d ∧
    (|magnitudeValue (roundToF32 n d) - n / d| = magnitudeValue p + n / d → roundToF32 n d % 2 = 0) := by
  have hp := magnitudeValue_nonneg p
  have hv : (0 : Rat) ≤ n / d := by positivity
  have hzero : |magnitudeValue 0 - n / d| = (n : Rat) / d := by
    simp [magnitudeValue, f32Units, abs_of_nonneg hv]
  obtain ⟨hle, heven⟩ := magnitudeValue_roundToF32_nearest n 0 hd hfin
  rw [hzero] at hle heven
  refine ⟨by linarith, fun htie => ?_⟩
  obtain h0 | h0 := heven (by linarith)
  · rw [← h0]
  · exact h0

/-- Settles O20: the literal and its pattern have one sign, so a finite pattern of that sign compares by magnitude, and
one of the other sign is across zero. -/
theorem decimalDutyLiteralsRoundToNearestEven : Obligations.DecimalDutyLiteralsRoundToNearestEven := by
  refine ⟨?_, fun n decimals => ⟨?_, assemble_real_negative n decimals⟩⟩
  · rintro negative n decimals b c x y v hassemble hb hc rfl
    have hd : 0 < 10 ^ decimals := Nat.pow_pos (by decide)
    have hsign : f32Sign b = negative := hassemble ▸ f32Sign_assemble_real negative n decimals
    have hmag : f32Magnitude b = roundToF32 n (10 ^ decimals) :=
      hassemble ▸ f32Magnitude_assemble_real negative n decimals
    have hpow : (10 : Rat) ^ decimals = (10 ^ decimals : ℕ) := by push_cast; rfl
    obtain ⟨hfin, rfl⟩ := f32val_eq_fin hb
    obtain ⟨-, rfl⟩ := f32val_eq_fin hc
    rw [hmag] at hfin
    have hv : (0 : Rat) ≤ n / (10 ^ decimals : ℕ) := by positivity
    rw [hsign, hmag, hpow, abs_applySign_sub _ _ (magnitudeValue_nonneg _) hv, if_pos rfl,
      abs_applySign_sub _ _ (magnitudeValue_nonneg _) hv]
    split
    case isTrue hsame =>
      obtain ⟨hle, heven⟩ := magnitudeValue_roundToF32_nearest n (f32Magnitude c) hd hfin
      refine ⟨hle, fun htie hne => getLsbD_zero_eq_false ?_⟩
      rw [hmag]
      refine (heven htie).resolve_left fun hp => hne ?_
      exact eq_of_f32Sign_of_f32Magnitude (hsign.trans hsame.symm) (hmag.trans hp.symm)
    case isFalse hother =>
      obtain ⟨hle, heven⟩ := magnitudeValue_roundToF32_nearest_across_zero n (f32Magnitude c) hd hfin
      exact ⟨hle, fun htie _ => getLsbD_zero_eq_false (hmag ▸ heven htie)⟩
  · rw [BitVec.le_def, toNat_assemble_real]
    simpa using roundToF32_le n (10 ^ decimals)

end Sys2Proof.Machine
end

section
/-! PROOFS. The statements about CONFIGURE (spec/40_configure.md): its refusals (R66), its ten steps (R67), the forced
update event (R68), writes of the auto-reload register (R69), and that no other command writes the time base (R65). -/

namespace Sys2Proof.Machine

/-- Settles O31: the unconfigured states of R34 are the reset registers, whose ARPE is 0, and the ten steps leave the
auto-reload value of the period in both copies. -/
theorem autoReloadWriteFollowsArpe : Obligations.AutoReloadWriteFollowsArpe := by
  refine ⟨fun r v => ⟨fun harpe => ?_, fun harpe => ?_⟩, fun r hinv hcce => ?_, fun p d r _ hhi => ?_⟩
  · simp [Regs.writeArr, harpe]
  · simp [Regs.writeArr, harpe]
  · rw [hinv.eq_reset hcce]
    rfl
  · rw [configureSteps_eq]
    exact ⟨autoReloadOf_toNat hhi, autoReloadOf_toNat hhi⟩

/-- Settles O42: SET_DUTY writes the compare register alone and START writes CEN alone, or each is refused. -/
theorem onlyConfigureWritesTheTimeBase : Obligations.OnlyConfigureWritesTheTimeBase := by
  intro i s t hexec hnot
  rw [exec_eq, Host.Outcome.next.injEq] at hexec
  subst hexec
  cases i with
  | configure p d => exact absurd rfl (hnot p d)
  | setDuty d =>
    obtain ⟨-, heff⟩ | ⟨-, heff⟩ := s.regs.setDuty_cases d
    all_goals simp [commandEffect, heff]
  | start =>
    obtain ⟨-, heff⟩ | ⟨-, heff⟩ := s.regs.start_cases
    all_goals simp [commandEffect, heff]

/-- Settles O27, by what each check of CCE and the period decides. -/
theorem configureRefusals : Obligations.ConfigureRefusals := by
  refine fun p d s => ⟨fun hbad => ?_, fun hcce hne hhi => ?_⟩
  · rw [exec_eq, commandEffect, Regs.configure_refused hbad]
    rfl
  · rw [exec_eq, commandEffect, Regs.configure_accepted hcce (Nat.pos_of_ne_zero hne) hhi]
    exact ⟨_, _, rfl, rfl⟩

/-- Settles O28, by the equation of the ten steps. -/
theorem configureRunsItsTenSteps : Obligations.ConfigureRunsItsTenSteps := by
  intro p d a s hcce hlo hhi ha
  have hreload : autoReloadOf p = a := BitVec.eq_of_toNat_eq ((autoReloadOf_toNat hhi).trans ha.symm)
  rw [exec_eq, commandEffect, Regs.configure_accepted hcce hlo hhi, configureSteps_eq, hreload]
  rfl

/-- Settles O30: both events are one copy, and the unconfigured states of R34 are the reset registers, whose counters
are 0. -/
theorem forceUpdateCopiesOnly : Obligations.ForceUpdateCopiesOnly := by
  refine ⟨fun r => ⟨rfl, rfl⟩, fun r hinv hcce => ?_⟩
  rw [hinv.eq_reset hcce]
  exact ⟨rfl, rfl⟩

end Sys2Proof.Machine
end

section
/-! PROOFS. A new duty waits in CCR_PRE and reaches CCR_ACT within one period (spec/41_set_duty.md R80,
spec/70_reset_and_hazards.md R105). -/

namespace Sys2Proof.Machine

theorem Regs.clkN_stopped {r : Regs} (h : r.cen = false) (n : Nat) : Regs.clkN n r = r := by
  induction n with
  | zero => rfl
  | succ n ih => rw [Regs.clkN_succ, Regs.clk_stopped h, ih]

theorem Regs.clkN_eq_after (n : Nat) (r : Regs) : Regs.clkN n r = r.after (List.replicate n .clk) := by
  induction n generalizing r with
  | zero => rfl
  | succ n ih => rw [Regs.clkN_succ, ih, List.replicate_succ, Regs.after_cons, Event.effect_clk]

theorem Regs.clkN_ccrPre (n : Nat) (r : Regs) : (Regs.clkN n r).ccrPre = r.ccrPre := by
  rw [Regs.clkN_eq_after, Regs.after_clks_ccrPre]

/-- CLK steps alone, too few for the boundary, stay in the period. -/
theorem Regs.LaterInPeriod.clkN {r0 r : Regs} {k n : Nat} (h : r0.LaterInPeriod k r)
    (hn : k + n < r0.clocksToBoundary) : r0.LaterInPeriod (k + n) (Regs.clkN n r) := by
  have hcount : (List.replicate n Event.clk).count .clk = n := List.count_replicate_self
  rw [← hcount] at hn
  have hafter := h.after (fun _ he => .inl (List.eq_of_mem_replicate he)) hn
  rwa [hcount, ← Regs.clkN_eq_after] at hafter

theorem Regs.one_le_clocksToBoundary (r : Regs) : 1 ≤ r.clocksToBoundary := Nat.le_add_left ..

/-- No boundary is more than one whole period away (R91, R92). -/
theorem Regs.clocksToBoundary_le_period (r : Regs) :
    r.clocksToBoundary ≤ (r.arrAct.toNat + 1) * (r.psc.toNat + 1) := by
  have hticks : (r.arrAct.toNat - r.cnt.toNat) * (r.psc.toNat + 1) ≤ r.arrAct.toNat * (r.psc.toNat + 1) :=
    Nat.mul_le_mul_right _ (Nat.sub_le ..)
  rw [Regs.clocksToBoundary, Nat.succ_mul]
  omega

/-- The registers after one SET_DUTY on a configured block and the CLK steps of the empty schedule. -/
theorem run_setDuty_idle {d : Word32} {s : State} (hl : s.Launched) (hcce : s.regs.cce = true)
    (hs : s.schedule = [.issue (encode (.setDuty d))]) (j : Nat) :
    ∃ t : State, core.run (1 + j) s = .next t ∧
      t.regs = Regs.clkN j (s.regs.writeCcr (mapDuty d s.regs.arrPre)) := by
  obtain ⟨u, hstep, hu, hlu, hsu⟩ := step_scheduled hl hs
  obtain ⟨t, hrun, ht, -, -⟩ := run_idle j hlu hsu
  rw [Event.effect_setDuty hcce] at hu
  exact ⟨t, (run_add j (run_succ 0 hstep)).trans hrun, hu ▸ ht⟩

/-- The registers right after a SET_DUTY are still at the same clock of the period. -/
theorem Regs.IsConfigured.laterInPeriod_writeCcr {r : Regs} (h : r.IsConfigured) (hcen : r.cen = true) (d : Word32) :
    r.LaterInPeriod 0 (r.writeCcr (mapDuty d r.arrPre)) := by
  rw [← Event.effect_setDuty h.output]
  exact (Regs.LaterInPeriod.refl h hcen).setDuty d

/-- Settles O38. The clocks to the next boundary are the bound: before it the CLK steps stay in the period, and its CLK
step loads CCR_PRE, which they do not write; a stopped counter changes nothing. -/
theorem newDutyIsActiveWithinOnePeriod : Obligations.NewDutyIsActiveWithinOnePeriod := by
  intro d s hl hinv hcce hs
  have hconf := hinv.isConfigured hcce
  refine ⟨?_, fun hcen => ?_, fun hcen j => ?_⟩
  · obtain ⟨t, hrun, ht, hrsp⟩ := run_setDuties [] d hl hcce hconf.compare_preload hs
    exact ⟨t, hrun, hrsp, congrArg Regs.ccrPre ht⟩
  · have hlater := hconf.laterInPeriod_writeCcr hcen d
    refine ⟨s.regs.clocksToBoundary, s.regs.one_le_clocksToBoundary, s.regs.clocksToBoundary_le_period,
      fun j hj => ?_, ?_⟩
    · obtain ⟨t, hrun, ht⟩ := run_setDuty_idle hl hcce hs j
      have hbefore : s.regs.LaterInPeriod (0 + j) t.regs := ht ▸ hlater.clkN (by omega)
      exact ⟨t, hrun, hbefore.compare, hbefore.compare ▸ hbefore.configured.pwmOut_iff⟩
    · obtain ⟨m, hm⟩ := Nat.exists_eq_add_of_le' s.regs.one_le_clocksToBoundary
      rw [hm]
      obtain ⟨t, hrun, ht⟩ := run_setDuty_idle hl hcce hs (m + 1)
      obtain ⟨-, hload⟩ := (hlater.clkN (n := m) (by omega)).clk_at_boundary (by omega)
      exact ⟨t, hrun, by rw [ht, Regs.clkN_succ_last, hload, Regs.clkN_ccrPre, Regs.writeCcr_ccrPre]⟩
  · obtain ⟨t, hrun, ht⟩ := run_setDuty_idle hl hcce hs j
    rw [Regs.clkN_stopped (by simpa using hcen)] at ht
    have hact : t.regs.ccrAct = s.regs.ccrAct := by
      rw [ht, Regs.writeCcr_ccrAct, if_pos hconf.compare_preload]
    have hconf' : t.regs.IsConfigured := ht ▸ hconf.writeCcr d
    exact ⟨t, hrun, hact, hact ▸ hconf'.pwmOut_iff⟩

end Sys2Proof.Machine
end

section
/-! PROOFS. The integer form of MAP is the exact rational one (spec/41_set_duty.md R72, R73): the clamped percentage is
the clamped value in units of 2^-20, so one integer division does the one rounding. -/

namespace Sys2Proof.Machine

/-! ### The clamp of R12 -/

theorem clamp_fin_of_lt {q lo hi : Rat} (h : q < lo) : clamp (.fin q) lo hi = lo := if_pos h

theorem clamp_fin_of_mem {q lo hi : Rat} (hlo : lo ≤ q) (hhi : q ≤ hi) : clamp (.fin q) lo hi = q := by
  simp [clamp, hlo.not_gt, hhi.not_gt]

theorem clamp_fin_of_gt {q lo hi : Rat} (hlo : lo ≤ hi) (h : hi < q) : clamp (.fin q) lo hi = hi := by
  simp [clamp, (hlo.trans_lt h).not_gt, h]

/-- The clamp of the percentage is the percentage of the clamp (R72). -/
theorem clamp_percent (x : ExtRat) : clamp x.percent (1 / 10) (1 / 5) = clamp x 10 20 / 100 := by
  cases x with
  | negInf => norm_num [ExtRat.percent, clamp]
  | posInf => norm_num [ExtRat.percent, clamp]
  | fin q =>
    rw [ExtRat.percent]
    obtain hlt | hlo := lt_or_ge q 10
    · rw [clamp_fin_of_lt (by linarith), clamp_fin_of_lt hlt]
      norm_num
    · obtain hgt | hhi := lt_or_ge 20 q
      · rw [clamp_fin_of_gt (by norm_num) (by linarith), clamp_fin_of_gt (by norm_num) hgt]
        norm_num
      · rw [clamp_fin_of_mem (by linarith) (by linarith), clamp_fin_of_mem hlo hhi]

/-! ### Patterns that are not finite numbers -/

/-- The three kinds of R11 by magnitude: a NaN is above the infinity of its sign, a finite number below it. -/
theorem f32val_cases (b : Word32) :
    (0x7F800000 < f32Magnitude b ∧ f32val b = none) ∨
    (f32Magnitude b = 0x7F800000 ∧ f32val b = some (if f32Sign b then .negInf else .posInf)) ∨
    (f32Magnitude b < 0x7F800000 ∧ ∃ q, f32val b = some (.fin q)) := by
  have hexp := f32Exp_eq b
  have hfrac := f32Frac_eq b
  unfold f32val f32Magnitude
  split
  · split
    · exact .inl ⟨by omega, rfl⟩
    · exact .inr (.inl ⟨by omega, rfl⟩)
  · refine .inr (.inr ⟨by omega, ?_⟩)
    split
    · exact ⟨_, rfl⟩
    · exact ⟨_, rfl⟩

theorem f32val_eq_none {b : Word32} (h : f32val b = none) : 0x7F800000 < f32Magnitude b := by
  obtain ⟨hmag, -⟩ | ⟨-, hval⟩ | ⟨-, q, hval⟩ := f32val_cases b
  · exact hmag
  · simp [hval] at h
  · simp [hval] at h

theorem f32val_eq_negInf {b : Word32} (h : f32val b = some .negInf) : f32Sign b = true := by
  obtain ⟨-, hval⟩ | ⟨-, hval⟩ | ⟨-, q, hval⟩ := f32val_cases b
  · simp [hval] at h
  · simpa [hval] using h
  · simp [hval] at h

theorem f32val_eq_posInf {b : Word32} (h : f32val b = some .posInf) :
    f32Sign b = false ∧ f32Magnitude b = 0x7F800000 := by
  obtain ⟨-, hval⟩ | ⟨hmag, hval⟩ | ⟨-, q, hval⟩ := f32val_cases b
  · simp [hval] at h
  · exact ⟨by simpa [hval] using h, hmag⟩
  · simp [hval] at h

/-! ### Finite magnitudes around the band -/

theorem magnitudeValue_lt_iff {p q : Nat} : magnitudeValue p < magnitudeValue q ↔ p < q := by
  rw [magnitudeValue, magnitudeValue, div_lt_div_iff_of_pos_right (by positivity), Nat.cast_lt,
    f32Units_strictMono.lt_iff_lt]

theorem magnitudeValue_le_iff {p q : Nat} : magnitudeValue p ≤ magnitudeValue q ↔ p ≤ q := by
  rw [← not_lt, magnitudeValue_lt_iff, not_lt]

/-- The value of a significand over its spacing. -/
theorem magnitudeValue_eq {k m : Nat} (hlo : 2 ^ 23 ≤ m) (hhi : m ≤ 2 ^ 24) :
    magnitudeValue (k * 2 ^ 23 + m) = (m : Rat) * 2 ^ k / 2 ^ 149 := by
  rw [magnitudeValue, f32Units_eq (.inr hlo) hhi]
  push_cast
  rfl

theorem magnitudeValue_ten : magnitudeValue 0x41200000 = 10 := by
  have h := magnitudeValue_eq (k := 129) (m := 0xA00000) (by norm_num) (by norm_num)
  norm_num at h
  exact h

theorem magnitudeValue_twenty : magnitudeValue 0x41A00000 = 20 := by
  have h := magnitudeValue_eq (k := 130) (m := 0xA00000) (by norm_num) (by norm_num)
  norm_num at h
  exact h

/-! ### The clamped percentage by the operand's pattern (R73) -/

theorem clampedPercent_of_negative {d : Word32} (hs : f32Sign d = true) : clampedPercent d = 10485760 := if_pos hs

/-- Without a sign bit the pattern is its magnitude. -/
theorem toNat_of_nonnegative {d : Word32} (hs : f32Sign d = false) : d.toNat = f32Magnitude d := by
  rw [f32Sign_eq, decide_eq_false_iff_not, not_le] at hs
  rw [f32Magnitude, Nat.mod_eq_of_lt hs]

/-- The pattern test of R73 over the magnitude, for an operand without a sign bit. -/
theorem clampedPercent_of_nonnegative {d : Word32} (hs : f32Sign d = false) :
    clampedPercent d =
      if 0x7F800000 < f32Magnitude d then 10485760
      else if f32Magnitude d < 0x41200000 then 10485760
      else if 0x41A00000 < f32Magnitude d then 20971520
      else if f32Magnitude d < 0x41800000 then 2 ^ 23 + f32Frac d
      else 2 * (2 ^ 23 + f32Frac d) := by
  have hbit : d.getLsbD 31 = false := hs
  simp only [clampedPercent, hbit, toNat_of_nonnegative hs, Bool.false_eq_true, if_false]

theorem clampedPercent_of_nan {d : Word32} (h : f32val d = none) : clampedPercent d = 10485760 := by
  cases hs : f32Sign d with
  | true => exact clampedPercent_of_negative hs
  | false => rw [clampedPercent_of_nonnegative hs, if_pos (f32val_eq_none h)]

/-- In the band the clamped percentage is the significand, in units of 2^-20 (R73). -/
theorem clampedPercent_in_band {d : Word32} (hs : f32Sign d = false) (hlo : 0x41200000 ≤ f32Magnitude d)
    (hhi : f32Magnitude d ≤ 0x41A00000) : (clampedPercent d : Rat) = magnitudeValue (f32Magnitude d) * 2 ^ 20 := by
  have hfrac : f32Frac d = f32Magnitude d % 2 ^ 23 := by rw [f32Frac_eq, toNat_of_nonnegative hs]
  have hlt := f32Frac_lt d
  rw [clampedPercent_of_nonnegative hs, if_neg (by omega), if_neg (by omega), if_neg (by omega)]
  split
  case isTrue hbinade =>
    have hmag : f32Magnitude d = 129 * 2 ^ 23 + (2 ^ 23 + f32Frac d) := by omega
    rw [hmag, magnitudeValue_eq (by omega) (by omega)]
    push_cast
    ring
  case isFalse hbinade =>
    have hmag : f32Magnitude d = 130 * 2 ^ 23 + (2 ^ 23 + f32Frac d) := by omega
    rw [hmag, magnitudeValue_eq (by omega) (by omega)]
    push_cast
    ring

/-- A finite magnitude's clamped percentage is its clamped value, in units of 2^-20. -/
theorem clampedPercent_of_magnitude {d : Word32} (hs : f32Sign d = false) (hfin : f32Magnitude d < 0x7F800000) :
    (clampedPercent d : Rat) = clamp (.fin (magnitudeValue (f32Magnitude d))) 10 20 * 2 ^ 20 := by
  obtain hlt | hlo := Nat.lt_or_ge (f32Magnitude d) 0x41200000
  · have hbelow := magnitudeValue_lt_iff.mpr hlt
    rw [magnitudeValue_ten] at hbelow
    rw [clamp_fin_of_lt hbelow, clampedPercent_of_nonnegative hs, if_neg (by omega), if_pos hlt]
    norm_num
  · have hlo' := magnitudeValue_le_iff.mpr hlo
    rw [magnitudeValue_ten] at hlo'
    obtain hgt | hhi := Nat.lt_or_ge 0x41A00000 (f32Magnitude d)
    · have habove := magnitudeValue_lt_iff.mpr hgt
      rw [magnitudeValue_twenty] at habove
      rw [clamp_fin_of_gt (by norm_num) habove, clampedPercent_of_nonnegative hs, if_neg (by omega), if_neg (by omega),
        if_pos hgt]
      norm_num
    · have hhi' := magnitudeValue_le_iff.mpr hhi
      rw [magnitudeValue_twenty] at hhi'
      rw [clamp_fin_of_mem hlo' hhi', clampedPercent_in_band hs hlo hhi]

/-- The clamped percentage is the value of the operand clamped to the band, in units of 2^-20 (R73). -/
theorem clampedPercent_of_value {d : Word32} {x : ExtRat} (h : f32val d = some x) :
    (clampedPercent d : Rat) = clamp x 10 20 * 2 ^ 20 := by
  cases x with
  | negInf =>
    rw [clampedPercent_of_negative (f32val_eq_negInf h), clamp]
    norm_num
  | posInf =>
    obtain ⟨hs, hmag⟩ := f32val_eq_posInf h
    rw [clampedPercent_of_nonnegative hs, hmag, clamp]
    norm_num
  | fin q =>
    obtain ⟨hfin, rfl⟩ := f32val_eq_fin h
    cases hs : f32Sign d with
    | true =>
      have hneg : applySign true (magnitudeValue (f32Magnitude d)) ≤ 0 := neg_nonpos.mpr (magnitudeValue_nonneg _)
      rw [clamp_fin_of_lt (by linarith), clampedPercent_of_negative hs]
      norm_num
    | false => exact clampedPercent_of_magnitude hs hfin

/-! ### MAP -/

/-- The normalized duty of R72 is the clamped percentage of R73 over `100 * 2 ^ 20`. -/
theorem normalizedDuty_eq (d : Word32) : normalizedDuty d = (clampedPercent d : Rat) / 104857600 := by
  unfold normalizedDuty
  cases h : f32val d with
  | none =>
    rw [clampedPercent_of_nan h]
    norm_num
  | some x =>
    dsimp only
    rw [clampedPercent_of_value h, clamp_percent]
    ring

/-- Rounding half up a quotient by an even number is one integer division. -/
theorem roundHalfUp_div (n : Nat) {m : Nat} (hm : 0 < m) :
    roundHalfUp ((n : Rat) / (2 * m : Nat)) = ((n + m) / (2 * m) : Nat) := by
  have hm' : (m : Rat) ≠ 0 := Nat.cast_ne_zero.mpr hm.ne'
  have hsum : (n : Rat) / (2 * m : Nat) + 1 / 2 = ((n + m : Nat) : Rat) / (2 * m : Nat) := by
    push_cast
    field_simp
  rw [roundHalfUp, hsum]
  exact Rat.floor_natCast_div_natCast ..

/-- Settles O21: the product with the normalized duty is a quotient by `100 * 2 ^ 20`, which the integer form rounds. -/
theorem mapIsTheExactRationalMap : Obligations.MapIsTheExactRationalMap := by
  refine ⟨fun d a => ?_, clamp_percent⟩
  have hround := roundHalfUp_div (clampedPercent d * a.toNat) (m := 52428800) (by norm_num)
  rw [mapDuty_toNat, normalizedDuty_eq, div_mul_eq_mul_div]
  push_cast at hround
  exact_mod_cast hround.symm

end Sys2Proof.Machine
end

section
/-! PROOFS. What SET_DUTY answers and writes (spec/41_set_duty.md R77 to R79). -/

namespace Sys2Proof.Machine

/-- `WriteCCR` under either value of OCPE, as one update (R79). -/
theorem Regs.writeCcr_eq (r : Regs) (v : Half) :
    r.writeCcr v = { r with ccrPre := v, ccrAct := if r.ocpe then r.ccrAct else v } := by
  unfold Regs.writeCcr
  split <;> rfl

/-- Settles O32, by what the check of CCE decides. -/
theorem setDutyRefusedOnlyWhileUnconfigured : Obligations.SetDutyRefusedOnlyWhileUnconfigured := by
  refine fun d s => ⟨fun hcce => ?_, fun hcce => ?_⟩
  · rw [exec_eq, commandEffect, Regs.setDuty_of_unconfigured hcce]
    rfl
  · rw [exec_eq, commandEffect, Regs.setDuty_of_configured hcce]
    exact ⟨_, _, rfl, rfl⟩

/-- Settles O33: the answer is one write of the compare register, and the invariant of R34 gives the configured block's
preload facts. -/
theorem setDutyWritesTheCompareRegister : Obligations.SetDutyWritesTheCompareRegister := by
  refine ⟨fun d s hcce => ?_, fun r hinv hcce => ?_⟩
  · rw [exec_eq, commandEffect, Regs.setDuty_of_configured hcce, Regs.writeCcr_eq]
    rfl
  · have hconf := hinv.isConfigured hcce
    exact ⟨hconf.auto_reload.symm, hconf.compare_preload⟩

/-- Settles O34, by the two forms of the write, the equation of CONFIGURE's ten steps, and the invariant of R34. -/
theorem compareWriteFollowsOcpe : Obligations.CompareWriteFollowsOcpe := by
  refine ⟨fun r v => ⟨fun hocpe => ?_, fun hocpe => Regs.writeCcr_of_ocpe hocpe v⟩, fun p d r => ?_,
    fun r hinv hcce => (hinv.isConfigured hcce).compare_preload⟩
  · simp [Regs.writeCcr, hocpe]
  · rw [configureSteps_eq]
    exact ⟨rfl, rfl, rfl⟩

end Sys2Proof.Machine
end

section
/-! PROOFS. What START answers and writes (spec/42_start.md R82 to R84). -/

namespace Sys2Proof.Machine

/-- START on a configured block sets CEN and responds `{OK, 0}` (R83). -/
theorem exec_start_of_configured {s : State} (hcce : s.regs.cce = true) :
    exec .start s = .next { s with regs := { s.regs with cen := true }, rsp := some ⟨.ok, 0⟩ } := by
  rw [exec_eq, commandEffect, Regs.start_of_configured hcce]
  rfl

/-- In the states of R34 a stopped block has both counters at 0. -/
theorem Regs.Inv.counters_of_stopped {r : Regs} (h : r.Inv) (hcen : r.cen = false) : r.cnt = 0 ∧ r.pscCnt = 0 := by
  obtain rfl | hconf := h
  · exact ⟨rfl, rfl⟩
  · obtain ⟨hcnt, hpsc, -⟩ := hconf.stopped hcen
    exact ⟨hcnt, hpsc⟩

theorem Regs.set_cen_of_running {r : Regs} (h : r.cen = true) : { r with cen := true } = r := by
  rw [← h]

/-- Settles O39, by what the check of CCE decides, and the invariant of R34 for the counters a first START finds. -/
theorem startSetsTheCounterRunBitOnly : Obligations.StartSetsTheCounterRunBitOnly := by
  refine fun s => ⟨fun hcce => ?_, exec_start_of_configured, Regs.Inv.counters_of_stopped⟩
  rw [exec_eq, commandEffect, Regs.start_of_unconfigured hcce]
  rfl

/-- Settles O40: the one register START writes already holds the value written. -/
theorem startAgainChangesNothing : Obligations.StartAgainChangesNothing := by
  intro s hcce hcen
  rw [exec_start_of_configured hcce, Regs.set_cen_of_running hcen]

end Sys2Proof.Machine
end

section
/-! PROOFS. The error responses (spec/60_exceptions.md section 1): what causes each (R85), that an error writes
nothing (R86), and that it leaves nothing behind (R88). -/

namespace Sys2Proof.Machine

/-! ### The causes of the two errors -/

/-- The causes of CONFIG_ERROR in the error table (R85). -/
def ConfigErrorCause (w : CmdWord) (r : Regs) : Prop :=
  (opField w = 0x01 ∧ (r.cce = true ∨ (periodField w).toNat = 0 ∨ 65536 < (periodField w).toNat)) ∨
  (opField w = 0x02 ∧ r.cce = false) ∨ (opField w = 0x03 ∧ r.cce = false)

/-- The cause of ILLEGAL_CMD in the error table (R85): a reserved opcode. -/
def IllegalCmdCause (w : CmdWord) : Prop := opField w = 0x00 ∨ 0x04 ≤ opField w

theorem wordEffect_of_decode {w : CmdWord} {i : Instr} (h : decode w = .ok i) (r : Regs) :
    wordEffect w r = commandEffect i r := by
  simp [wordEffect, h]

theorem illegalCmdCause_of_ne {w : CmdWord} (h1 : opField w ≠ 0x01#8) (h2 : opField w ≠ 0x02#8)
    (h3 : opField w ≠ 0x03#8) : IllegalCmdCause w := by
  unfold IllegalCmdCause
  bv_omega

/-- What an issued word can do: take one of the two errors, which writes nothing and whose cause excludes the other's,
or respond OK, with no cause of either present. -/
theorem wordEffect_cases (w : CmdWord) (r : Regs) :
    (ConfigErrorCause w r ∧ ¬ IllegalCmdCause w ∧ wordEffect w r = (r, ⟨.configError, 0⟩)) ∨
    (¬ ConfigErrorCause w r ∧ IllegalCmdCause w ∧ wordEffect w r = (r, ⟨.illegalCmd, 0⟩)) ∨
    (¬ ConfigErrorCause w r ∧ ¬ IllegalCmdCause w ∧ ∃ q v, wordEffect w r = (q, ⟨.ok, v⟩)) := by
  obtain ⟨hop, hd⟩ | ⟨hop, hd⟩ | ⟨hop, hd⟩ | ⟨h1, h2, h3, -⟩ := decode_cases w
  · have hlegal : ¬ IllegalCmdCause w := by simp [IllegalCmdCause, hop]
    rw [wordEffect_of_decode hd, commandEffect]
    obtain ⟨hbad, heff⟩ | ⟨hcce, hlo, hhi, heff⟩ := r.configure_cases (periodField w) (dutyField w)
    · exact .inl ⟨.inl ⟨hop, hbad⟩, hlegal, heff⟩
    · have hperiod : (periodField w).toNat ≠ 0 ∧ (periodField w).toNat ≤ 65536 := by omega
      exact .inr (.inr ⟨by simp [ConfigErrorCause, hop, hcce, hperiod], hlegal, _, _, heff⟩)
  · have hlegal : ¬ IllegalCmdCause w := by simp [IllegalCmdCause, hop]
    rw [wordEffect_of_decode hd, commandEffect]
    obtain ⟨hcce, heff⟩ | ⟨hcce, heff⟩ := r.setDuty_cases (dutyField w)
    · exact .inl ⟨.inr (.inl ⟨hop, hcce⟩), hlegal, heff⟩
    · exact .inr (.inr ⟨by simp [ConfigErrorCause, hop, hcce], hlegal, _, _, heff⟩)
  · have hlegal : ¬ IllegalCmdCause w := by simp [IllegalCmdCause, hop]
    rw [wordEffect_of_decode hd, commandEffect]
    obtain ⟨hcce, heff⟩ | ⟨hcce, heff⟩ := r.start_cases
    · exact .inl ⟨.inr (.inr ⟨hop, hcce⟩), hlegal, heff⟩
    · exact .inr (.inr ⟨by simp [ConfigErrorCause, hop, hcce], hlegal, _, _, heff⟩)
  · have hres : IllegalCmdCause w := illegalCmdCause_of_ne h1 h2 h3
    exact .inr (.inl ⟨by simp [ConfigErrorCause, h1, h2, h3], hres, wordEffect_reserved hres r⟩)

theorem wordEffect_configError_iff (w : CmdWord) (r : Regs) :
    (wordEffect w r).2 = ⟨.configError, 0⟩ ↔ ConfigErrorCause w r := by
  obtain ⟨hcause, -, heff⟩ | ⟨hcause, -, heff⟩ | ⟨hcause, -, q, v, heff⟩ := wordEffect_cases w r
  all_goals simp [heff, hcause]

theorem wordEffect_illegalCmd_iff (w : CmdWord) (r : Regs) :
    (wordEffect w r).2 = ⟨.illegalCmd, 0⟩ ↔ IllegalCmdCause w := by
  obtain ⟨-, hcause, heff⟩ | ⟨-, hcause, heff⟩ | ⟨-, hcause, q, v, heff⟩ := wordEffect_cases w r
  all_goals simp [heff, hcause]

/-- The whole of an error is its response, with value 0 (R86). -/
theorem wordEffect_of_error {w : CmdWord} {r : Regs} (h : (wordEffect w r).2.status ≠ .ok) :
    (wordEffect w r).1 = r ∧ (wordEffect w r).2.value = 0 := by
  obtain ⟨-, -, heff⟩ | ⟨-, -, heff⟩ | ⟨-, -, q, v, heff⟩ := wordEffect_cases w r
  · simp [heff]
  · simp [heff]
  · simp [heff] at h

/-! ### Steps that issue a word -/

/-- In a launched state the word that comes next is issued: the step is its effect and its response. -/
theorem step_issue {s : State} {w : CmdWord} {rest : List Event} (hl : s.Launched)
    (hs : s.schedule = .issue w :: rest) :
    step s = .next ⟨(wordEffect w s.regs).1, some (wordEffect w s.regs).2, rest, s.premises⟩ := by
  rw [step_launched hl]
  simp [State.nextEvent, hs, Event.effect, Event.response]

/-- A step that answers an error leaves the response in the state and nothing else (R86). -/
theorem step_issue_error {s t : State} {w : CmdWord} {rest : List Event} {r : Response} (hl : s.Launched)
    (hs : s.schedule = .issue w :: rest) (h : step s = .next t) (hr : t.rsp = some r) (hne : r.status ≠ .ok) :
    wordEffect w s.regs = (s.regs, r) ∧ r.value = 0 ∧ t = { s with rsp := some r, schedule := rest } := by
  rw [step_issue hl hs, Host.Outcome.next.injEq] at h
  subst h
  obtain rfl : (wordEffect w s.regs).2 = r := Option.some.inj hr
  obtain ⟨hregs, hvalue⟩ := wordEffect_of_error hne
  exact ⟨Prod.ext hregs rfl, hvalue, by rw [hregs]⟩

/-- The response of the step before has no effect on a step (R32). -/
theorem step_with_rsp (s : State) (o : Option Response) : step { s with rsp := o } = step s := by
  rw [step_eq_resume_stepRegs, step_eq_resume_stepRegs]
  rfl

/-- Settles O10: the response is that of the word's effect, whose two errors have exactly the causes of the table. -/
theorem errorStatusesHaveExactlyTheseCauses : Obligations.ErrorStatusesHaveExactlyTheseCauses := by
  intro s t w rest hl hs h
  have hrsp : t.rsp = some (wordEffect w s.regs).2 := by
    rw [step_issue hl hs, Host.Outcome.next.injEq] at h
    rw [← h]
  refine ⟨?_, ?_, fun r hr hne => ?_⟩
  · rw [hrsp, Option.some_inj]
    exact wordEffect_configError_iff w s.regs
  · rw [hrsp, Option.some_inj]
    exact wordEffect_illegalCmd_iff w s.regs
  · obtain ⟨-, hvalue, ht⟩ := step_issue_error hl hs h hr hne
    exact ⟨hvalue, by rw [ht]⟩

/-- Settles O11, by the effect of a word that is answered an error. -/
theorem erroringCommandWritesNothing : Obligations.ErroringCommandWritesNothing :=
  fun _ _ _ _ _ hl hs h hr hne => (step_issue_error hl hs h hr hne).2

/-- Settles O12: the state after an error differs in the response only, which no step reads; and the same word meets the
same registers. -/
theorem errorsLeaveNothingBehind : Obligations.ErrorsLeaveNothingBehind := by
  intro s t w v rest r hl hs h hr hne
  obtain ⟨heff, -, rfl⟩ := step_issue_error hl hs h hr hne
  have hnext := step_with_rsp { s with schedule := .issue v :: rest } (some r)
  refine ⟨hnext, ?_⟩
  rintro rfl
  have hagain := step_issue (s := { s with schedule := .issue v :: rest }) hl rfl
  rw [hnext, hagain, heff]

end Sys2Proof.Machine
end

section
/-! PROOFS. The timer agent and the pin (spec/60_exceptions.md section 4): CLK, TICK and the update event (R91 to
R93), the pin (R94), and that no command writes the counters (R98). -/

namespace Sys2Proof.Machine

/-! ### Commands and the counters -/

/-- Settles O43: CONFIGURE's ten steps, the write of the compare register and START leave both counters alone, and of the
three only START writes CEN. -/
theorem noCommandWritesTheCounters : Obligations.NoCommandWritesTheCounters := by
  intro i s t h
  rw [exec_eq, Host.Outcome.next.injEq] at h
  subst h
  cases i with
  | configure p d =>
    obtain ⟨-, heff⟩ | ⟨-, -, -, heff⟩ := s.regs.configure_cases p d
    · simp [commandEffect, heff]
    · simp [commandEffect, heff, configureSteps_eq]
  | setDuty d =>
    obtain ⟨-, heff⟩ | ⟨-, heff⟩ := s.regs.setDuty_cases d
    all_goals simp [commandEffect, heff]
  | start =>
    obtain ⟨-, heff⟩ | ⟨-, heff⟩ := s.regs.start_cases
    all_goals simp [commandEffect, heff]

/-! ### CLK, TICK and the update event -/

/-- Settles O7, by the step of a launched state. -/
theorem stepRunsTheTimerAgent : Obligations.StepRunsTheTimerAgent := by
  intro s hl
  refine ⟨fun rest hs => ?_, fun hs => ?_⟩
  all_goals
    rw [step_launched hl]
    simp [State.nextEvent, hs, Event.response]

theorem Regs.clk_of_prescaled {r : Regs} (hcen : r.cen = true) (h : r.psc ≤ r.pscCnt) :
    r.clk = { r with pscCnt := 0 }.tick := by
  obtain ⟨-, hclk⟩ | ⟨hlt, -⟩ := r.clk_running hcen
  · exact hclk
  · exact absurd hlt (BitVec.not_lt.mpr h)

theorem Regs.clk_of_prescaling {r : Regs} (hcen : r.cen = true) (h : r.pscCnt < r.psc) :
    r.clk = { r with pscCnt := r.pscCnt + 1 } := by
  obtain ⟨hle, -⟩ | ⟨-, hclk⟩ := r.clk_running hcen
  · exact absurd h (BitVec.not_lt.mpr hle)
  · exact hclk

/-- From a tick on, the first `PSC` clocks of a running timer only count in PSC_CNT. -/
theorem Regs.clkN_prescaling {r : Regs} (hcen : r.cen = true) (hzero : r.pscCnt = 0) {n : Nat}
    (hn : n ≤ r.psc.toNat) : Regs.clkN n r = { r with pscCnt := BitVec.ofNat 16 n } := by
  induction n with
  | zero => exact congrArg (fun v => { r with pscCnt := v }) hzero
  | succ n ih =>
    have hlt : BitVec.ofNat 16 n < r.psc := by bv_omega
    rw [Regs.clkN_succ_last, ih (by omega), Regs.clk_of_prescaling (r := { r with pscCnt := .ofNat 16 n }) hcen hlt]
    simp [BitVec.ofNat_add]

/-- The clock after those is a TICK. -/
theorem Regs.clkN_psc_succ {r : Regs} (hcen : r.cen = true) (hzero : r.pscCnt = 0) :
    Regs.clkN (r.psc.toNat + 1) r = r.tick := by
  have hfull : r.psc ≤ BitVec.ofNat 16 r.psc.toNat := by simp
  rw [Regs.clkN_succ_last, Regs.clkN_prescaling hcen hzero le_rfl,
    Regs.clk_of_prescaled (r := { r with pscCnt := .ofNat 16 r.psc.toNat }) hcen hfull, ← hzero]

theorem Regs.Inv.pscCnt_le {r : Regs} (h : r.Inv) : r.pscCnt ≤ r.psc := by
  obtain rfl | hconf := h
  · exact Half.zero_le _
  · exact hconf.prescale_in_range

theorem Regs.Inv.cnt_le {r : Regs} (h : r.Inv) : r.cnt ≤ r.arrAct := by
  obtain rfl | hconf := h
  · exact Half.zero_le _
  · exact hconf.count_in_period

theorem Regs.Inv.arrAct_eq {r : Regs} (h : r.Inv) : r.arrAct = r.arrPre := by
  obtain rfl | hconf := h
  · rfl
  · exact hconf.auto_reload

/-- Settles O47, by the cases of CLK and the induction of `Regs.clkN_prescaling`. -/
theorem clkDividesByPscPlusOne : Obligations.ClkDividesByPscPlusOne :=
  ⟨fun _ => ⟨Regs.clk_stopped, Regs.clk_of_prescaled, Regs.clk_of_prescaling⟩,
    fun _ hcen hzero => ⟨fun _ => Regs.clkN_prescaling hcen hzero, Regs.clkN_psc_succ hcen hzero⟩,
    fun _ => Regs.Inv.pscCnt_le⟩

theorem Regs.tick_at_reload {r : Regs} (h : r.arrAct ≤ r.cnt) :
    r.tick = { r with cnt := 0, arrAct := r.arrPre, ccrAct := r.ccrPre } := by
  obtain ⟨-, htick⟩ | ⟨hlt, -⟩ := r.tick_cases
  · exact htick
  · exact absurd hlt (BitVec.not_lt.mpr h)

theorem Regs.tick_below_reload {r : Regs} (h : r.cnt < r.arrAct) : r.tick = { r with cnt := r.cnt + 1 } := by
  obtain ⟨hle, -⟩ | ⟨-, htick⟩ := r.tick_cases
  · exact absurd h (BitVec.not_lt.mpr hle)
  · exact htick

/-- Settles O48, by the cases of TICK: below ARR_ACT the counter cannot wrap, and a counter at 0 restarts at 0. -/
theorem tickCountsAndRestartsAtAutoReload : Obligations.TickCountsAndRestartsAtAutoReload := by
  refine ⟨fun r => ⟨Regs.tick_at_reload, fun hlt => ⟨Regs.tick_below_reload hlt, ?_⟩⟩, fun r => Regs.Inv.cnt_le,
    fun r harr hcnt => ?_⟩
  · have hnowrap : (r.cnt + 1).toNat = r.cnt.toNat + 1 := by bv_omega
    rw [Regs.tick_below_reload hlt, hnowrap]
  · rw [Regs.tick_at_reload (harr ▸ Half.zero_le _), ← hcnt]
    rfl

/-- Settles O49: the event is the copy, and in the states of R34 the two auto-reload copies are equal. -/
theorem updateEventLoadsTheActiveRegisters : Obligations.UpdateEventLoadsTheActiveRegisters := by
  refine ⟨fun r => rfl, fun r hinv => ?_⟩
  rw [Regs.updateEvent_eq, Regs.loadActive, ← hinv.arrAct_eq]

/-! ### The pin -/

theorem Regs.pwmOut_of_disabled {r : Regs} (h : r.cce = false ∨ r.ccOut = false) : r.pwmOut = false := by
  simp [Regs.pwmOut, h]

/-- The pin of an enabled output channel: `active`, inverted under the active-low polarity. -/
theorem Regs.pwmOut_of_enabled {r : Regs} (hcce : r.cce = true) (hout : r.ccOut = true) :
    r.pwmOut = true ↔ (r.ccp = .activeHigh ↔ r.ocm = .pwm1 ∧ r.cnt < r.ccrAct) := by
  cases hccp : r.ccp with
  | activeHigh => simp [Regs.pwmOut, Regs.active, hcce, hout, hccp]
  | activeLow => simp [Regs.pwmOut, Regs.active, hcce, hout, hccp, imp_iff_not_or]

/-- Settles O50, by the two forms of the pin, and the invariant of R34: a block with CCE 0 is in reset, and a configured
one drives an active-high PWM1 output. -/
theorem pinIsHighBelowTheActiveCompareValue : Obligations.PinIsHighBelowTheActiveCompareValue := by
  refine ⟨fun r => ⟨Regs.pwmOut_of_disabled, Regs.pwmOut_of_enabled⟩, fun r hinv => ?_⟩
  cases hcce : r.cce with
  | false => simp [Regs.pwmOut_of_disabled (.inl hcce)]
  | true => simpa [BitVec.lt_def] using (hinv.isConfigured hcce).pwmOut_iff

end Sys2Proof.Machine
end

section
/-! PROOFS. RESET and the launch premises (spec/70_reset_and_hazards.md section 1: R100, R101), and the silent output
before START (R104). -/

namespace Sys2Proof.Machine

/-! ### RESET -/

/-- No command clears CCE or CEN (R24, R25): a refused one writes nothing, CONFIGURE sets CCE and keeps CEN, SET_DUTY
writes neither, and START sets CEN. -/
theorem commandEffect_clears_neither_cce_nor_cen (i : Instr) (r : Regs) :
    (r.cce = true → (commandEffect i r).1.cce = true) ∧ (r.cen = true → (commandEffect i r).1.cen = true) := by
  refine ⟨fun hcce => (commandEffect_cce_iff i r).mpr (.inl hcce), fun hcen => ?_⟩
  obtain heff | ⟨-, p, d, heff⟩ | ⟨-, d, heff⟩ | ⟨-, heff⟩ := commandEffect_regs_cases i r
  · rwa [heff]
  · rwa [heff, configureSteps_eq]
  · rwa [heff, Regs.writeCcr_cen]
  · rw [heff]

/-- Settles O3, by the four kinds of step: no command clears either bit, an illegal word writes nothing, and CLK writes
neither. -/
theorem onlyResetClearsCceOrCen : Obligations.OnlyResetClearsCceOrCen := by
  intro s t h hnot
  obtain ⟨-, ⟨w, i, -, -, rfl⟩ | ⟨w, e, -, -, rfl⟩ | ⟨-, rfl⟩ | ⟨ws, he, -⟩⟩ := step_cases h
  · exact commandEffect_clears_neither_cce_nor_cen i s.regs
  · exact ⟨id, id⟩
  · simp
  · exact absurd he (hnot ws)

/-- Settles O2, by the step of a launched state. -/
theorem resetStepReplacesTheRegisters : Obligations.ResetStepReplacesTheRegisters := by
  intro s presented rest hl hs
  refine ⟨?_, Regs.pwmOut_of_disabled (.inl rfl)⟩
  rw [step_launched hl]
  simp [State.nextEvent, hs, Event.effect, Event.response]

/-! ### The launch premises -/

theorem step_of_broken {s : State} {why : Refusal} (h : s.premises.broken = some why) : step s = .refused why := by
  simp [step, h]

/-- Settles O5, by which premise is found broken: P1 is looked at first. -/
theorem brokenLaunchPremiseIsRefused : Obligations.BrokenLaunchPremiseIsRefused := by
  refine fun s => ⟨fun hclock => step_of_broken ?_, fun hclock hpin => step_of_broken ?_⟩
  · simp [Premises.broken, hclock]
  · simp [Premises.broken, hclock, hpin]

/-! ### Before START -/

/-- In the states of R34 the pin of a stopped block is low: in reset it is disabled, and once configured its CCR_ACT
stays 0 until START. -/
theorem Regs.Inv.pwmOut_of_stopped {r : Regs} (h : r.Inv) (hcen : r.cen = false) : r.pwmOut = false := by
  obtain rfl | hconf := h
  · exact Regs.pwmOut_of_disabled (.inl rfl)
  · obtain ⟨-, -, hact⟩ := hconf.stopped hcen
    have hlow : ¬ r.cnt < r.ccrAct := BitVec.not_lt.mpr (hact ▸ Half.zero_le _)
    exact Bool.eq_false_iff.mpr (mt hconf.pwmOut_iff.mp hlow)

/-- Settles O41: of the commands only START writes CEN, and in the states of R34 a stopped block has a low pin and no
CLK step changes it. -/
theorem silentUntilStart : Obligations.SilentUntilStart := by
  refine ⟨fun p d s t h => ?_, fun r hinv hcen => ⟨hinv.pwmOut_of_stopped hcen, Regs.clkN_stopped hcen⟩⟩
  obtain ⟨-, -, hcen, -, -⟩ := noCommandWritesTheCounters (.configure p d) s t h
  exact hcen (by simp)

end Sys2Proof.Machine
end

section
/-! PROOFS. The lifecycle invariant as a step lemma (spec/10_state.md R34), and what it implies (R28). -/

namespace Sys2Proof.Machine

/-- Settles O57, by what each kind of step does to either kind of R34's states. -/
theorem stepKeepsTheLifecycleInvariant : Obligations.StepKeepsTheLifecycleInvariant :=
  fun _ _ => Regs.Inv.step

theorem Regs.Inv.cce_of_running {r : Regs} (h : r.Inv) (hcen : r.cen = true) : r.cce = true := by
  obtain rfl | hconf := h
  · exact absurd hcen Bool.false_ne_true
  · exact hconf.output

/-- Settles O58: the compare copies are 0 or MAP of a duty, and the reset registers have CEN 0. -/
theorem lifecycleInvariantBoundsTheCompareValue : Obligations.LifecycleInvariantBoundsTheCompareValue :=
  fun _ hinv => ⟨hinv.compareInBounds, hinv.cce_of_running⟩

end Sys2Proof.Machine
end

section
/-! PROOFS. The properties of MAP (spec/41_set_duty.md R74, R75), the duty ratio (spec/60_exceptions.md R96), and the
counterexamples to FSW's unrounded bounds (spec/90_conflicts.md C3). -/

namespace Sys2Proof.Machine

/-! ### The clamped percentage -/

/-- Settles O25: the clamped percentage is the clamped value in units of 2^-20, and NaN's is the low edge. -/
theorem specialDutyOperandsAreCorrected : Obligations.SpecialDutyOperandsAreCorrected := by
  refine fun d => ⟨fun h => clampedPercent_of_nan h, fun h => ?_, fun h => ?_, fun x h => clampedPercent_of_value h⟩
  · exact clampedPercent_of_negative (f32val_eq_negInf h)
  · have hvalue : (clampedPercent d : Rat) = 20 * 2 ^ 20 := clampedPercent_of_value h
    exact_mod_cast hvalue

theorem clamp_fin_eq_max_min (q : Rat) {lo hi : Rat} (hband : lo ≤ hi) : clamp (.fin q) lo hi = max lo (min q hi) := by
  obtain hlt | hlo := lt_or_ge q lo
  · rw [clamp_fin_of_lt hlt, max_eq_left (min_le_of_left_le hlt.le)]
  · obtain hgt | hhi := lt_or_ge hi q
    · rw [clamp_fin_of_gt hband hgt, min_eq_right hgt.le, max_eq_right hband]
    · rw [clamp_fin_of_mem hlo hhi, min_eq_left hhi, max_eq_right hlo]

theorem clamp_mem (x : ExtRat) {lo hi : Rat} (hband : lo ≤ hi) : lo ≤ clamp x lo hi ∧ clamp x lo hi ≤ hi := by
  cases x with
  | negInf => exact ⟨le_rfl, hband⟩
  | posInf => exact ⟨hband, le_rfl⟩
  | fin q =>
    rw [clamp_fin_eq_max_min q hband]
    exact ⟨le_max_left .., max_le hband (min_le_right ..)⟩

/-- The clamp of R12 keeps the order of R12. -/
theorem clamp_mono {x y : ExtRat} {lo hi : Rat} (hband : lo ≤ hi) (h : x.le y) : clamp x lo hi ≤ clamp y lo hi := by
  cases x with
  | negInf => exact (clamp_mem y hband).1
  | posInf =>
    cases y with
    | posInf => exact le_rfl
    | negInf | fin _ => exact False.elim h
  | fin q =>
    cases y with
    | negInf => exact False.elim h
    | posInf => exact (clamp_mem (.fin q) hband).2
    | fin q' =>
      rw [clamp_fin_eq_max_min q hband, clamp_fin_eq_max_min q' hband]
      exact max_le_max_left _ (min_le_min_right _ h)

theorem clampedPercent_mono {d₁ d₂ : Word32} {x₁ x₂ : ExtRat} (h₁ : f32val d₁ = some x₁) (h₂ : f32val d₂ = some x₂)
    (hle : x₁.le x₂) : clampedPercent d₁ ≤ clampedPercent d₂ := by
  have hclamp : clamp x₁ 10 20 ≤ clamp x₂ 10 20 := clamp_mono (by norm_num) hle
  have hcast : (clampedPercent d₁ : Rat) ≤ clampedPercent d₂ := by
    rw [clampedPercent_of_value h₁, clampedPercent_of_value h₂]
    linarith
  exact_mod_cast hcast

/-! ### MAP -/

/-- Settles O24: the clamp, the product with the auto-reload value and the division each keep the order. -/
theorem mapIsMonotoneInTheDuty : Obligations.MapIsMonotoneInTheDuty := by
  intro d1 d2 x1 x2 a h1 h2 hle
  have hprod : clampedPercent d1 * a.toNat ≤ clampedPercent d2 * a.toNat :=
    Nat.mul_le_mul_right _ (clampedPercent_mono h1 h2 hle)
  rw [BitVec.le_def, mapDuty_toNat, mapDuty_toNat]
  omega

/-- Settles O22: the band's edges are MAP of the edges 10 and 20 of the clamped percentage. -/
theorem mapStaysInBandAndBelowAutoReload : Obligations.MapStaysInBandAndBelowAutoReload := by
  intro d a
  obtain ⟨hlo, hhi⟩ := clampedPercent_range d
  have hlow : 10485760 * a.toNat ≤ clampedPercent d * a.toNat := Nat.mul_le_mul_right _ hlo
  have hhigh : clampedPercent d * a.toNat ≤ 20971520 * a.toNat := Nat.mul_le_mul_right _ hhi
  refine ⟨?_, ?_, ?_, mapDuty_le d a⟩
  · rw [mapDuty_toNat, lowBand]
    omega
  · rw [mapDuty_toNat, highBand]
    omega
  · rw [highBand]
    omega

/-- The rounding of R12 is Mathlib's `round`, which rounds halves up. -/
theorem roundHalfUp_eq_round (q : Rat) : roundHalfUp q = round q := (round_eq q).symm

/-- Settles O23: MAP is the rounded exact product, and rounding to the nearest integer moves a number by at most 1/2. -/
theorem mapIsWithinHalfOfExact : Obligations.MapIsWithinHalfOfExact := by
  intro d a
  have hmap : ((mapDuty d a).toNat : Int) = round (normalizedDuty d * (a.toNat : Rat)) :=
    (mapIsTheExactRationalMap.1 d a).trans (roundHalfUp_eq_round _)
  have hcast : ((mapDuty d a).toNat : Rat) = (round (normalizedDuty d * (a.toNat : Rat)) : Rat) := by
    exact_mod_cast hmap
  rw [hcast, abs_sub_comm]
  exact abs_sub_round _

/-- Settles O53: the two sides are `(n * (p - 1) - 1/2) / p` and `(n * (p - 1) + 1/2) / p`, and MAP is within one half of
`n * (p - 1)`. -/
theorem dutyRatioIsNearTheRequest : Obligations.DutyRatioIsNearTheRequest := by
  intro p d a hlo hhi ha
  have hp : (0 : Rat) < p.toNat := by exact_mod_cast hlo
  have hpred : (a.toNat : Rat) = p.toNat - 1 := by rw [ha, Nat.cast_pred hlo]
  obtain ⟨hbelow, habove⟩ := abs_le.mp (mapIsWithinHalfOfExact d a)
  rw [hpred] at hbelow habove
  constructor
  · rw [sub_le_iff_le_add, ← add_div, le_div_iff₀ hp]
    linarith
  · rw [← sub_le_iff_le_add', div_sub' hp.ne', div_le_div_iff_of_pos_right hp]
    linarith

/-- Settles O26, by evaluating MAP on the conflict entry's operands. -/
theorem unroundedBoundsDoNotHold : Obligations.UnroundedBoundsDoNotHold := by
  unfold Obligations.UnroundedBoundsDoNotHold
  decide

end Sys2Proof.Machine
end

section
/-! PROOFS. Decoding the words of spec/95_test_vectors.md 2.1, and the PWM frequency (spec/60_exceptions.md R96). -/

namespace Sys2Proof

/-- Settles O19, by evaluating the decoder. -/
theorem vectorWordsDecode : Obligations.VectorWordsDecode := by
  unfold Obligations.VectorWordsDecode
  decide

end Sys2Proof

namespace Sys2Proof.Config

/-- Settles O54: the divider cancels, by R7's constraint. -/
theorem pwmFrequencyIsTickRateOverPeriod : Obligations.PwmFrequencyIsTickRateOverPeriod := by
  intro p _
  have hdivider : (pscFixed.toNat + 1 : Rat) ≠ 0 := Nat.cast_add_one_ne_zero _
  rw [pwmFrequency, fClkHz]
  push_cast
  rw [mul_comm (fTickHz : Rat), mul_div_mul_left _ _ hdivider]

end Sys2Proof.Config
end

section
/-! PROOFS. CONFIGURE from reset leaves the compare value pending (spec/40_configure.md R70), and a repeated SET_DUTY
gives the same value (spec/41_set_duty.md R75). -/

namespace Sys2Proof.Machine

/-- Settles O29, by the equation of the ten steps; the pin is low because CCR_ACT takes the reset CCR_PRE, which is 0. -/
theorem configureFromResetLeavesCompareValuePending : Obligations.ConfigureFromResetLeavesCompareValuePending := by
  intro p d a s hs hlo hhi ha
  have hexec := configureRunsItsTenSteps p d a s (by rw [hs]; rfl) hlo hhi ha
  rw [hs] at hexec
  exact ⟨_, hexec, rfl, rfl, by simp [Regs.pwmOut, Regs.active, Regs.reset]⟩

/-- Settles O35: neither SET_DUTY nor a CLK step writes CCE or ARR_PRE, of which the answer is a function. -/
theorem setDutyTwiceGivesTheSameValue : Obligations.SetDutyTwiceGivesTheSameValue := by
  intro d n s t hcce h
  rw [exec_eq, commandEffect, Regs.setDuty_of_configured hcce, Host.Outcome.next.injEq] at h
  subst h
  have hsame := Regs.SameButTimer.clkN n (s.regs.writeCcr (mapDuty d s.regs.arrPre))
  have hagain := Regs.setDuty_of_configured (hsame.cce.trans (by simpa using hcce)) d
  rw [hsame.arrPre, Regs.writeCcr_arrPre] at hagain
  exact ⟨_, exec_eq .., by simp [commandEffect, hagain], by simp [commandEffect, hagain]⟩

end Sys2Proof.Machine
end

section
/-! PROOFS. One period clock by clock (spec/60_exceptions.md R96), and the first period after START (R97,
spec/70_reset_and_hazards.md R103). -/

namespace Sys2Proof.Machine

/-! ### The counters over one period -/

/-- From a period's start, every `PSC + 1` clocks up to the auto-reload value count one tick. -/
theorem Regs.clkN_ticks {r : Regs} (hcen : r.cen = true) (hcnt : r.cnt = 0) (hzero : r.pscCnt = 0) {k : Nat}
    (hk : k ≤ r.arrAct.toNat) : Regs.clkN (k * (r.psc.toNat + 1)) r = { r with cnt := BitVec.ofNat 16 k } := by
  induction k with
  | zero =>
    rw [Nat.zero_mul]
    exact congrArg (fun v => { r with cnt := v }) hcnt
  | succ k ih =>
    have hlt : BitVec.ofNat 16 k < r.arrAct := by bv_omega
    rw [Nat.succ_mul, Regs.clkN_add, ih (by omega),
      Regs.clkN_psc_succ (r := { r with cnt := .ofNat 16 k }) hcen hzero,
      Regs.tick_below_reload (r := { r with cnt := .ofNat 16 k }) hlt]
    simp [BitVec.ofNat_add]

/-- From a period's start, the clocks before the boundary move the two counts only: the quotient and the remainder of
their number by `PSC + 1`. -/
theorem Regs.clkN_in_period {r : Regs} (hcen : r.cen = true) (hcnt : r.cnt = 0) (hzero : r.pscCnt = 0) {n : Nat}
    (hn : n < (r.arrAct.toNat + 1) * (r.psc.toNat + 1)) :
    Regs.clkN n r = { r with
      cnt := BitVec.ofNat 16 (n / (r.psc.toNat + 1)), pscCnt := BitVec.ofNat 16 (n % (r.psc.toNat + 1)) } := by
  have hquot : n / (r.psc.toNat + 1) < r.arrAct.toNat + 1 := (Nat.div_lt_iff_lt_mul (Nat.succ_pos _)).mpr hn
  have hrem : n % (r.psc.toNat + 1) < r.psc.toNat + 1 := Nat.mod_lt _ (Nat.succ_pos _)
  calc Regs.clkN n r
    _ = Regs.clkN (n / (r.psc.toNat + 1) * (r.psc.toNat + 1) + n % (r.psc.toNat + 1)) r := by rw [Nat.div_add_mod']
    _ = Regs.clkN (n % (r.psc.toNat + 1)) { r with cnt := BitVec.ofNat 16 (n / (r.psc.toNat + 1)) } := by
        rw [Regs.clkN_add, Regs.clkN_ticks hcen hcnt hzero (Nat.le_of_lt_succ hquot)]
    _ = _ := Regs.clkN_prescaling (r := { r with cnt := .ofNat 16 (n / (r.psc.toNat + 1)) }) hcen hzero
        (Nat.le_of_lt_succ hrem)

/-- A whole period from its start ends at the next one's, after the update event (R92, R93). -/
theorem Regs.clkN_period {r : Regs} (hcen : r.cen = true) (hcnt : r.cnt = 0) (hzero : r.pscCnt = 0) :
    Regs.clkN ((r.arrAct.toNat + 1) * (r.psc.toNat + 1)) r = r.updateEvent := by
  have hfull : r.arrAct ≤ BitVec.ofNat 16 r.arrAct.toNat := by simp
  rw [Nat.succ_mul, Regs.clkN_add, Regs.clkN_ticks hcen hcnt hzero le_rfl,
    Regs.clkN_psc_succ (r := { r with cnt := .ofNat 16 r.arrAct.toNat }) hcen hzero,
    Regs.tick_at_reload (r := { r with cnt := .ofNat 16 r.arrAct.toNat }) hfull, ← hcnt]
  rfl

theorem Regs.IsConfigured.clkN {r : Regs} (h : r.IsConfigured) (n : Nat) : (Regs.clkN n r).IsConfigured := by
  induction n with
  | zero => exact h
  | succ n ih =>
    rw [Regs.clkN_succ_last]
    exact ih.clk

/-- The pin over one period: high for the first CCR_ACT ticks, low for the rest (R94, R96). -/
theorem Regs.IsConfigured.pwmOut_clkN_iff {r : Regs} (h : r.IsConfigured) (hcen : r.cen = true) (hcnt : r.cnt = 0)
    (hzero : r.pscCnt = 0) {n : Nat} (hn : n < (r.arrAct.toNat + 1) * (r.psc.toNat + 1)) :
    (Regs.clkN n r).pwmOut = true ↔ n / (r.psc.toNat + 1) < r.ccrAct.toNat := by
  have hquot : n / (r.psc.toNat + 1) < r.arrAct.toNat + 1 := (Nat.div_lt_iff_lt_mul (Nat.succ_pos _)).mpr hn
  have hfits : n / (r.psc.toNat + 1) < 2 ^ 16 := hquot.trans_le r.arrAct.isLt
  rw [(h.clkN n).pwmOut_iff, Regs.clkN_in_period hcen hcnt hzero hn, BitVec.lt_def, BitVec.toNat_ofNat,
    Nat.mod_eq_of_lt hfits]

/-- Settles O52: with nothing scheduled the machine's steps are CLK steps, so the period is that of the counters. -/
theorem steadyStateWaveform : Obligations.SteadyStateWaveform := by
  intro s hl hs hconf hcen hcnt hzero
  refine ⟨fun n hn => ?_, ?_⟩
  · obtain ⟨t, hrun, ht, -, -⟩ := run_idle n hl hs
    exact ⟨t, hrun, ht.trans (Regs.clkN_in_period hcen hcnt hzero hn),
      ht ▸ hconf.pwmOut_clkN_iff hcen hcnt hzero hn⟩
  · obtain ⟨t, hrun, ht, -, -⟩ := run_idle ((s.regs.arrAct.toNat + 1) * (s.regs.psc.toNat + 1)) hl hs
    obtain ⟨-, hload⟩ := updateEventLoadsTheActiveRegisters
    exact ⟨t, hrun, by rw [ht, Regs.clkN_period hcen hcnt hzero, hload _ (.inr hconf)]⟩

/-! ### From reset to the first pulse -/

/-- A configured running block at the start of a period with the duty `d` in CCR_PRE and `active` in CCR_ACT. -/
def periodStart (d : Word32) (a active : Half) : Regs :=
  ⟨Config.pscFixed, a, a, mapDuty d a, active, .pwm1, true, .activeHigh, true, true, true, true, 0, 0⟩

/-- The boot sequence from reset, CONFIGURE and START, ends at the start of a period with CCR_ACT still 0 (R103). -/
theorem run_boot {p d : Word32} {a : Half} {s : State} (hlo : 1 ≤ p.toNat) (hhi : p.toNat ≤ 65536)
    (ha : a.toNat = p.toNat - 1) (hl : s.Launched) (hreset : s.regs = Regs.reset)
    (hs : s.schedule = [.issue (encode (.configure p d)), .issue (encode .start)]) :
    ∃ t : State, core.run 2 s = .next t ∧ t.regs = periodStart d a 0 ∧ t.Launched ∧ t.schedule = [] := by
  have hreload : autoReloadOf p = a := BitVec.eq_of_toNat_eq ((autoReloadOf_toNat hhi).trans ha.symm)
  obtain ⟨t, hrun, ht, hlt, hst⟩ := run_scheduled _ hl (hs.trans (List.append_nil _).symm)
  have hconfigure : (commandEffect (.configure p d) Regs.reset).1 = (configureSteps p d Regs.reset).1 :=
    congrArg Prod.fst (Regs.configure_accepted rfl hlo hhi)
  have hstart : (commandEffect .start (configureSteps p d Regs.reset).1).1 =
      { (configureSteps p d Regs.reset).1 with cen := true } :=
    congrArg Prod.fst (Regs.start_of_configured (configureSteps_cce ..))
  refine ⟨t, hrun, ?_, hlt, hst⟩
  rw [ht, hreset, Regs.after_cons, Regs.after_cons, Regs.after_nil, Event.effect_issue_encode, Event.effect_issue_encode,
    hconfigure, hstart, configureSteps_reset, hreload, periodStart]

theorem periodStart_isConfigured {d : Word32} {a active : Half} (hact : active = 0 ∨ ∃ d', active = mapDuty d' a) :
    (periodStart d a active).IsConfigured where
  psc_fixed := rfl
  auto_reload := rfl
  mode := rfl
  direction := rfl
  polarity := rfl
  compare_preload := rfl
  reload_preload := rfl
  output := rfl
  compare_pre := ⟨d, rfl⟩
  compare_act := hact
  stopped := nofun
  count_in_period := Half.zero_le _
  prescale_in_range := Half.zero_le _

/-- Settles O55: the first period runs with CCR_ACT 0, its boundary loads CCR_PRE, and the pulse of the second period is
within that period, since MAP is at most the auto-reload value. -/
theorem firstPeriodAfterStartHasNoPulse : Obligations.FirstPeriodAfterStartHasNoPulse := by
  intro p d a hlo hhi ha s period
  obtain ⟨u, hboot, hu, hlu, hsu⟩ := run_boot (s := s) hlo hhi ha ⟨rfl, rfl⟩ rfl rfl
  have hfirst : (periodStart d a 0).IsConfigured := periodStart_isConfigured (.inl rfl)
  have hsecond : (periodStart d a (mapDuty d a)).IsConfigured := periodStart_isConfigured (.inr ⟨d, rfl⟩)
  obtain ⟨v, hrun, hv, hlv, hsv⟩ := run_idle period hlu hsu
  have hsecondStart : v.regs = periodStart d a (mapDuty d a) := by
    rw [hv, hu]
    exact Regs.clkN_period (r := periodStart d a 0) rfl rfl rfl
  have hperiod : core.run (2 + period) s = .next v := (run_add period hboot).trans hrun
  refine ⟨fun n hn => ?_, ⟨v, hperiod, hsecondStart⟩, fun n hn => ?_⟩
  · obtain ⟨t, hidle, ht, -, -⟩ := run_idle n hlu hsu
    rw [hu] at ht
    have hpin := hfirst.pwmOut_clkN_iff rfl rfl rfl hn
    refine ⟨t, (run_add n hboot).trans hidle, ?_, ?_⟩
    · rw [ht, Regs.clkN_in_period (r := periodStart d a 0) rfl rfl rfl hn]
      rfl
    · rw [ht]
      exact Bool.eq_false_iff.mpr (mt hpin.mp (Nat.not_lt_zero _))
  · have hpulse : (mapDuty d a).toNat ≤ a.toNat + 1 := (BitVec.le_def.mp (mapDuty_le d a)).trans (Nat.le_succ _)
    have hn' : n < period := hn.trans_le (Nat.mul_le_mul_right _ hpulse)
    obtain ⟨t, hidle, ht, -, -⟩ := run_idle n hlv hsv
    refine ⟨t, (run_add n hperiod).trans hidle, ?_⟩
    rw [ht, hsecondStart]
    exact (hsecond.pwmOut_clkN_iff rfl rfl rfl hn').mpr ((Nat.div_lt_iff_lt_mul (Nat.succ_pos _)).mpr hn)

end Sys2Proof.Machine
end
